-- ==== Sys2Proof/Word.lean ====
section
/-! DEFINITION. The two widths of the block (spec/00_scope.md rule R16): every port access, register cell and
diagnostic register is 8 bits; addresses, values, tags and memory words are 32 bits. -/

namespace Sys2Proof

/-- One byte: what one port access moves (00_scope.md rule R16). -/
abbrev Byte := BitVec 8

/-- One 32-bit word: an address, a value, a tag, or a word of backing memory (00_scope.md rule R16). -/
abbrev Word := BitVec 32

/-- A byte lane of a word: lane 0 is bits 7:0, lane 3 is bits 31:24 (00_scope.md rule R21). -/
abbrev Lane := Fin 4

end Sys2Proof
end

