-- ==== Sys2Proof/Config.lean ====
section
/-! DEFINITION. The parameters a model takes as arguments (spec/00_scope.md rules R7, R17, R18, R19): their types, and
the free values that stand for those the spec leaves OPEN. The literal constants are in Machine/Params.lean. -/

namespace Sys2Proof

/-- One entry of the tag/link table: a 32-bit tag and a payload of fixed length (20_memory.md rule R81). -/
structure TagEntry where
  tag : Word
  payload : List Byte
deriving DecidableEq, Repr

/-- What the host configures once, before power-on (70_reset_and_hazards.md rule R287): `PORT_BASE` (00_scope.md rule
R7), `TAG_TABLE` (rule R17) and `TAG_SENTINEL` (rule R18). `MEM_INIT` is `Config.memInit`. -/
structure Setup where
  portBase : Nat
  tagTable : List TagEntry
  tagSentinel : Word
deriving DecidableEq, Repr

/-- `MAX_PAYLOAD`: the largest payload length in the table, 0 if the table is empty (00_scope.md rule R17). -/
def Setup.maxPayload (c : Setup) : Nat := c.tagTable.foldr (fun e m => max e.payload.length m) 0

/-- FREE VALUE. `MEM_INIT` (00_scope.md rule R19): the content of backing memory word `index` when content number
`load` was put there. Load 0 is the first power-on; a later power-on or a restore (70_reset_and_hazards.md rule R288)
takes the next number, so that nothing relates the two contents. Log 4, log 13. -/
opaque Config.memInit (load index : Nat) : Word

/-- FREE VALUE. `TAG_TABLE` (00_scope.md rule R17) as `State.reset` has it, before the check of 20_memory.md rule R82.
Log 6. -/
opaque Config.rawTagTable : List TagEntry

/-- FREE VALUE. `TAG_SENTINEL` (00_scope.md rule R18) as `State.reset` has it. Log 7. -/
opaque Config.tagSentinel : Word

/-- `MEM_RESET_POLICY` (00_scope.md rule R19): what an explicit reset does to backing memory. -/
inductive MemResetPolicy where
  | preserve
  | zero
deriving DecidableEq, Repr

end Sys2Proof
end

