-- ==== Sys2Proof/Syntax.lean ====
section
/-! DEFINITION. The instructions: one constructor for each of the 73 rows of spec/opcode_table.json. An instruction is one
host access (spec/00_scope.md rule R2): 64 access kinds, one for each direction and offset (30_encoding.md rule R98), and
the 9 opcode bytes, the second-level decode of the byte that `WR_SERIAL` carries in state `OPCODE` (rules R93, R99). -/

namespace Sys2Proof

/-- The instructions. `RD_` and `WR_` rows are accesses in the direction and at the offset the row gives; a write carries
its data byte `b`, and a read carries nothing, because its DATA bits are ignored (30_encoding.md rule R91). `OP_` rows are
opcode bytes; an illegal one carries the whole byte `b`, which is what a fault reports (60_exceptions.md rule R241). -/
inductive Instr where
  /-- `RD_DATA`: Read(0x00), rule R134. -/
  | rdData
  /-- `RD_NOPORT01`: Read(0x01), rule R128. -/
  | rdNoport01
  /-- `RD_SKIP`: Read(0x02), rule R135. -/
  | rdSkip
  /-- `RD_LINKARM`: Read(0x03), rule R180. -/
  | rdLinkarm
  /-- `RD_UNMAPPED_04`: Read(0x04), rule R129. -/
  | rdUnmapped04
  /-- `RD_UNMAPPED_05`: Read(0x05), rule R129. -/
  | rdUnmapped05
  /-- `RD_UNMAPPED_06`: Read(0x06), rule R129. -/
  | rdUnmapped06
  /-- `RD_CELL07`: Read(0x07), rule R211. -/
  | rdCell07
  /-- `RD_UNMAPPED_08`: Read(0x08), rule R129. -/
  | rdUnmapped08
  /-- `RD_UNMAPPED_09`: Read(0x09), rule R129. -/
  | rdUnmapped09
  /-- `RD_UNMAPPED_0A`: Read(0x0A), rule R129. -/
  | rdUnmapped0A
  /-- `RD_UNMAPPED_0B`: Read(0x0B), rule R129. -/
  | rdUnmapped0B
  /-- `RD_UNMAPPED_0C`: Read(0x0C), rule R129. -/
  | rdUnmapped0C
  /-- `RD_UNMAPPED_0D`: Read(0x0D), rule R129. -/
  | rdUnmapped0D
  /-- `RD_UNMAPPED_0E`: Read(0x0E), rule R129. -/
  | rdUnmapped0E
  /-- `RD_UNMAPPED_0F`: Read(0x0F), rule R129. -/
  | rdUnmapped0F
  /-- `RD_CELL10`: Read(0x10), rule R213. -/
  | rdCell10
  /-- `RD_CELL11`: Read(0x11), rule R215. -/
  | rdCell11
  /-- `RD_UNMAPPED_12`: Read(0x12), rule R129. -/
  | rdUnmapped12
  /-- `RD_UNMAPPED_13`: Read(0x13), rule R129. -/
  | rdUnmapped13
  /-- `RD_CELL14`: Read(0x14), rule R217. -/
  | rdCell14
  /-- `RD_UNMAPPED_15`: Read(0x15), rule R129. -/
  | rdUnmapped15
  /-- `RD_UNMAPPED_16`: Read(0x16), rule R129. -/
  | rdUnmapped16
  /-- `RD_UNMAPPED_17`: Read(0x17), rule R129. -/
  | rdUnmapped17
  /-- `RD_UNMAPPED_18`: Read(0x18), rule R129. -/
  | rdUnmapped18
  /-- `RD_UNMAPPED_19`: Read(0x19), rule R129. -/
  | rdUnmapped19
  /-- `RD_UNMAPPED_1A`: Read(0x1A), rule R129. -/
  | rdUnmapped1A
  /-- `RD_UNMAPPED_1B`: Read(0x1B), rule R129. -/
  | rdUnmapped1B
  /-- `RD_UNMAPPED_1C`: Read(0x1C), rule R129. -/
  | rdUnmapped1C
  /-- `RD_UNMAPPED_1D`: Read(0x1D), rule R129. -/
  | rdUnmapped1D
  /-- `RD_UNMAPPED_1E`: Read(0x1E), rule R129. -/
  | rdUnmapped1E
  /-- `RD_UNMAPPED_1F`: Read(0x1F), rule R129. -/
  | rdUnmapped1F
  /-- `WR_NOPORT00`: Write(0x00, b), rule R128. -/
  | wrNoport00 (b : Byte)
  /-- `WR_SERIAL`: Write(0x01, b), rule R125. -/
  | wrSerial (b : Byte)
  /-- `WR_NOPORT02`: Write(0x02, b), rule R128. -/
  | wrNoport02 (b : Byte)
  /-- `WR_TRIGGER`: Write(0x03, b), rule R124. -/
  | wrTrigger (b : Byte)
  /-- `WR_UNMAPPED_04`: Write(0x04, b), rule R129. -/
  | wrUnmapped04 (b : Byte)
  /-- `WR_UNMAPPED_05`: Write(0x05, b), rule R129. -/
  | wrUnmapped05 (b : Byte)
  /-- `WR_UNMAPPED_06`: Write(0x06, b), rule R129. -/
  | wrUnmapped06 (b : Byte)
  /-- `WR_CELL07`: Write(0x07, b), rule R212. -/
  | wrCell07 (b : Byte)
  /-- `WR_UNMAPPED_08`: Write(0x08, b), rule R129. -/
  | wrUnmapped08 (b : Byte)
  /-- `WR_UNMAPPED_09`: Write(0x09, b), rule R129. -/
  | wrUnmapped09 (b : Byte)
  /-- `WR_UNMAPPED_0A`: Write(0x0A, b), rule R129. -/
  | wrUnmapped0A (b : Byte)
  /-- `WR_UNMAPPED_0B`: Write(0x0B, b), rule R129. -/
  | wrUnmapped0B (b : Byte)
  /-- `WR_UNMAPPED_0C`: Write(0x0C, b), rule R129. -/
  | wrUnmapped0C (b : Byte)
  /-- `WR_UNMAPPED_0D`: Write(0x0D, b), rule R129. -/
  | wrUnmapped0D (b : Byte)
  /-- `WR_UNMAPPED_0E`: Write(0x0E, b), rule R129. -/
  | wrUnmapped0E (b : Byte)
  /-- `WR_UNMAPPED_0F`: Write(0x0F, b), rule R129. -/
  | wrUnmapped0F (b : Byte)
  /-- `WR_CELL10`: Write(0x10, b), rule R214. -/
  | wrCell10 (b : Byte)
  /-- `WR_CELL11`: Write(0x11, b), rule R216. -/
  | wrCell11 (b : Byte)
  /-- `WR_UNMAPPED_12`: Write(0x12, b), rule R129. -/
  | wrUnmapped12 (b : Byte)
  /-- `WR_UNMAPPED_13`: Write(0x13, b), rule R129. -/
  | wrUnmapped13 (b : Byte)
  /-- `WR_CELL14`: Write(0x14, b), rule R218. -/
  | wrCell14 (b : Byte)
  /-- `WR_UNMAPPED_15`: Write(0x15, b), rule R129. -/
  | wrUnmapped15 (b : Byte)
  /-- `WR_UNMAPPED_16`: Write(0x16, b), rule R129. -/
  | wrUnmapped16 (b : Byte)
  /-- `WR_UNMAPPED_17`: Write(0x17, b), rule R129. -/
  | wrUnmapped17 (b : Byte)
  /-- `WR_UNMAPPED_18`: Write(0x18, b), rule R129. -/
  | wrUnmapped18 (b : Byte)
  /-- `WR_UNMAPPED_19`: Write(0x19, b), rule R129. -/
  | wrUnmapped19 (b : Byte)
  /-- `WR_UNMAPPED_1A`: Write(0x1A, b), rule R129. -/
  | wrUnmapped1A (b : Byte)
  /-- `WR_UNMAPPED_1B`: Write(0x1B, b), rule R129. -/
  | wrUnmapped1B (b : Byte)
  /-- `WR_UNMAPPED_1C`: Write(0x1C, b), rule R129. -/
  | wrUnmapped1C (b : Byte)
  /-- `WR_UNMAPPED_1D`: Write(0x1D, b), rule R129. -/
  | wrUnmapped1D (b : Byte)
  /-- `WR_UNMAPPED_1E`: Write(0x1E, b), rule R129. -/
  | wrUnmapped1E (b : Byte)
  /-- `WR_UNMAPPED_1F`: Write(0x1F, b), rule R129. -/
  | wrUnmapped1F (b : Byte)
  /-- `OP_POKE`: opcode byte, rule R126. -/
  | opPoke
  /-- `OP_PEEK`: opcode byte, rule R126. -/
  | opPeek
  /-- `OP_ILLEGAL_02_03`: opcode byte, rule R242. -/
  | opIllegal0203 (b : Byte)
  /-- `OP_ILLEGAL_04_07`: opcode byte, rule R242. -/
  | opIllegal0407 (b : Byte)
  /-- `OP_ILLEGAL_08_0F`: opcode byte, rule R242. -/
  | opIllegal080F (b : Byte)
  /-- `OP_ILLEGAL_10_1F`: opcode byte, rule R242. -/
  | opIllegal101F (b : Byte)
  /-- `OP_ILLEGAL_20_3F`: opcode byte, rule R242. -/
  | opIllegal203F (b : Byte)
  /-- `OP_ILLEGAL_40_7F`: opcode byte, rule R242. -/
  | opIllegal407F (b : Byte)
  /-- `OP_ILLEGAL_80_FF`: opcode byte, rule R242. -/
  | opIllegal80FF (b : Byte)
deriving DecidableEq, Repr

end Sys2Proof
end

