-- ==== Sys2Proof/Decode.lean ====
section
/-! DEFINITION. The decoder, total on any bytes, and the encoder, both written from spec/30_encoding.md rules R91 (the bus
transaction word), R98 (the access kinds) and R93 (the opcode byte). A 14-bit bus transaction word (BTW) is laid out in two
bytes, DATA first, with bits 15:14 zero; an opcode byte is one byte (log 11). -/

namespace Sys2Proof

/-- Field `W` of a BTW, bit 13: 1 is a write (30_encoding.md rule R91). -/
def btwIsWrite (w : BitVec 14) : Bool := w.getLsbD 13

/-- Field `OFF` of a BTW, bits 12:8 (30_encoding.md rule R91). -/
def btwOffset (w : BitVec 14) : BitVec 5 := w.extractLsb' 8 5

/-- Field `DATA` of a BTW, bits 7:0 (30_encoding.md rule R91). -/
def btwData (w : BitVec 14) : Byte := w.extractLsb' 0 8

/-- The BTW of an access: `(W << 13) | (OFF << 8) | DATA` (30_encoding.md rule R91). -/
def busWord (isWrite : Bool) (off : BitVec 5) (data : Byte) : BitVec 14 :=
  ((BitVec.ofBool isWrite).setWidth 14 <<< 13) ||| (off.setWidth 14 <<< 8) ||| data.setWidth 14

/-- The access kind of a read at an offset (30_encoding.md rule R98, column `W` = 0). -/
def decodeRead (off : BitVec 5) : Instr :=
  match off.toNat with
  | 0x00 => .rdData
  | 0x01 => .rdNoport01
  | 0x02 => .rdSkip
  | 0x03 => .rdLinkarm
  | 0x04 => .rdUnmapped04
  | 0x05 => .rdUnmapped05
  | 0x06 => .rdUnmapped06
  | 0x07 => .rdCell07
  | 0x08 => .rdUnmapped08
  | 0x09 => .rdUnmapped09
  | 0x0A => .rdUnmapped0A
  | 0x0B => .rdUnmapped0B
  | 0x0C => .rdUnmapped0C
  | 0x0D => .rdUnmapped0D
  | 0x0E => .rdUnmapped0E
  | 0x0F => .rdUnmapped0F
  | 0x10 => .rdCell10
  | 0x11 => .rdCell11
  | 0x12 => .rdUnmapped12
  | 0x13 => .rdUnmapped13
  | 0x14 => .rdCell14
  | 0x15 => .rdUnmapped15
  | 0x16 => .rdUnmapped16
  | 0x17 => .rdUnmapped17
  | 0x18 => .rdUnmapped18
  | 0x19 => .rdUnmapped19
  | 0x1A => .rdUnmapped1A
  | 0x1B => .rdUnmapped1B
  | 0x1C => .rdUnmapped1C
  | 0x1D => .rdUnmapped1D
  | 0x1E => .rdUnmapped1E
  | _ => .rdUnmapped1F  -- 0x1F, the one offset of five bits that is left

/-- The access kind of a write of `b` at an offset (30_encoding.md rule R98, column `W` = 1). -/
def decodeWrite (off : BitVec 5) (b : Byte) : Instr :=
  match off.toNat with
  | 0x00 => .wrNoport00 b
  | 0x01 => .wrSerial b
  | 0x02 => .wrNoport02 b
  | 0x03 => .wrTrigger b
  | 0x04 => .wrUnmapped04 b
  | 0x05 => .wrUnmapped05 b
  | 0x06 => .wrUnmapped06 b
  | 0x07 => .wrCell07 b
  | 0x08 => .wrUnmapped08 b
  | 0x09 => .wrUnmapped09 b
  | 0x0A => .wrUnmapped0A b
  | 0x0B => .wrUnmapped0B b
  | 0x0C => .wrUnmapped0C b
  | 0x0D => .wrUnmapped0D b
  | 0x0E => .wrUnmapped0E b
  | 0x0F => .wrUnmapped0F b
  | 0x10 => .wrCell10 b
  | 0x11 => .wrCell11 b
  | 0x12 => .wrUnmapped12 b
  | 0x13 => .wrUnmapped13 b
  | 0x14 => .wrCell14 b
  | 0x15 => .wrUnmapped15 b
  | 0x16 => .wrUnmapped16 b
  | 0x17 => .wrUnmapped17 b
  | 0x18 => .wrUnmapped18 b
  | 0x19 => .wrUnmapped19 b
  | 0x1A => .wrUnmapped1A b
  | 0x1B => .wrUnmapped1B b
  | 0x1C => .wrUnmapped1C b
  | 0x1D => .wrUnmapped1D b
  | 0x1E => .wrUnmapped1E b
  | _ => .wrUnmapped1F b  -- 0x1F, the one offset of five bits that is left

/-- First-level decode: every BTW is exactly one access kind, by `W` and `OFF` alone (30_encoding.md rules R98, R99). -/
def decodeBtw (w : BitVec 14) : Instr :=
  if btwIsWrite w then decodeWrite (btwOffset w) (btwData w) else decodeRead (btwOffset w)

/-- Second-level decode: every byte is exactly one opcode-byte row (30_encoding.md rules R93, R99). -/
def decodeOpByte (b : Byte) : Instr :=
  if b = 0x00 then .opPoke
  else if b = 0x01 then .opPeek
  else if b < 0x04 then .opIllegal0203 b
  else if b < 0x08 then .opIllegal0407 b
  else if b < 0x10 then .opIllegal080F b
  else if b < 0x20 then .opIllegal101F b
  else if b < 0x40 then .opIllegal203F b
  else if b < 0x80 then .opIllegal407F b
  else .opIllegal80FF b

/-- Why the decoder refuses a string of bytes. -/
inductive DecodeError where
  /-- There is no byte to decode. -/
  | noBytes
  /-- Two bytes whose bits 15:14 are not zero: a BTW has 14 bits (30_encoding.md rule R91). -/
  | notFourteenBits
  /-- More than two bytes: every access is one BTW, with no prefixes (30_encoding.md rule R101). -/
  | tooManyBytes
deriving DecidableEq, Repr

/-- The decoder, total on any bytes: one byte is an opcode byte, two bytes are a BTW, low byte first (log 11). -/
def decode : List Byte → Except DecodeError Instr
  | [] => .error .noBytes
  | [b] => .ok (decodeOpByte b)
  | [lo, hi] => if hi < 0x40 then .ok (decodeBtw ((hi ++ lo).setWidth 14)) else .error .notFourteenBits
  | _ :: _ :: _ :: _ => .error .tooManyBytes

/-- What the encoding of an instruction is made of: a BTW of a read or a write, or an opcode byte. -/
inductive Encoding where
  | read (off : BitVec 5)
  | write (off : BitVec 5) (b : Byte)
  | opByte (b : Byte)
deriving DecidableEq, Repr

/-- The encoding of each instruction: direction and offset from 30_encoding.md rule R98, opcode bytes from rule R93. -/
def encoding : Instr → Encoding
  | .rdData => .read 0x00
  | .rdNoport01 => .read 0x01
  | .rdSkip => .read 0x02
  | .rdLinkarm => .read 0x03
  | .rdUnmapped04 => .read 0x04
  | .rdUnmapped05 => .read 0x05
  | .rdUnmapped06 => .read 0x06
  | .rdCell07 => .read 0x07
  | .rdUnmapped08 => .read 0x08
  | .rdUnmapped09 => .read 0x09
  | .rdUnmapped0A => .read 0x0A
  | .rdUnmapped0B => .read 0x0B
  | .rdUnmapped0C => .read 0x0C
  | .rdUnmapped0D => .read 0x0D
  | .rdUnmapped0E => .read 0x0E
  | .rdUnmapped0F => .read 0x0F
  | .rdCell10 => .read 0x10
  | .rdCell11 => .read 0x11
  | .rdUnmapped12 => .read 0x12
  | .rdUnmapped13 => .read 0x13
  | .rdCell14 => .read 0x14
  | .rdUnmapped15 => .read 0x15
  | .rdUnmapped16 => .read 0x16
  | .rdUnmapped17 => .read 0x17
  | .rdUnmapped18 => .read 0x18
  | .rdUnmapped19 => .read 0x19
  | .rdUnmapped1A => .read 0x1A
  | .rdUnmapped1B => .read 0x1B
  | .rdUnmapped1C => .read 0x1C
  | .rdUnmapped1D => .read 0x1D
  | .rdUnmapped1E => .read 0x1E
  | .rdUnmapped1F => .read 0x1F
  | .wrNoport00 b => .write 0x00 b
  | .wrSerial b => .write 0x01 b
  | .wrNoport02 b => .write 0x02 b
  | .wrTrigger b => .write 0x03 b
  | .wrUnmapped04 b => .write 0x04 b
  | .wrUnmapped05 b => .write 0x05 b
  | .wrUnmapped06 b => .write 0x06 b
  | .wrCell07 b => .write 0x07 b
  | .wrUnmapped08 b => .write 0x08 b
  | .wrUnmapped09 b => .write 0x09 b
  | .wrUnmapped0A b => .write 0x0A b
  | .wrUnmapped0B b => .write 0x0B b
  | .wrUnmapped0C b => .write 0x0C b
  | .wrUnmapped0D b => .write 0x0D b
  | .wrUnmapped0E b => .write 0x0E b
  | .wrUnmapped0F b => .write 0x0F b
  | .wrCell10 b => .write 0x10 b
  | .wrCell11 b => .write 0x11 b
  | .wrUnmapped12 b => .write 0x12 b
  | .wrUnmapped13 b => .write 0x13 b
  | .wrCell14 b => .write 0x14 b
  | .wrUnmapped15 b => .write 0x15 b
  | .wrUnmapped16 b => .write 0x16 b
  | .wrUnmapped17 b => .write 0x17 b
  | .wrUnmapped18 b => .write 0x18 b
  | .wrUnmapped19 b => .write 0x19 b
  | .wrUnmapped1A b => .write 0x1A b
  | .wrUnmapped1B b => .write 0x1B b
  | .wrUnmapped1C b => .write 0x1C b
  | .wrUnmapped1D b => .write 0x1D b
  | .wrUnmapped1E b => .write 0x1E b
  | .wrUnmapped1F b => .write 0x1F b
  | .opPoke => .opByte 0x00
  | .opPeek => .opByte 0x01
  | .opIllegal0203 b => .opByte b
  | .opIllegal0407 b => .opByte b
  | .opIllegal080F b => .opByte b
  | .opIllegal101F b => .opByte b
  | .opIllegal203F b => .opByte b
  | .opIllegal407F b => .opByte b
  | .opIllegal80FF b => .opByte b

/-- The bytes of an encoding, low byte first. A read's DATA is written as 0x00 (30_encoding.md rule R91). -/
def encodingBytes : Encoding → List Byte
  | .read off => [(busWord false off 0x00).extractLsb' 0 8, ((busWord false off 0x00).setWidth 16).extractLsb' 8 8]
  | .write off b => [(busWord true off b).extractLsb' 0 8, ((busWord true off b).setWidth 16).extractLsb' 8 8]
  | .opByte b => [b]

/-- The encoder. -/
def encode (i : Instr) : List Byte := encodingBytes (encoding i)

/-- Does the instruction read (return a byte)? The `RD_` rows do; a `WR_` row and an opcode byte, which a write carries, do
not (00_scope.md rule R25). -/
def returnsByte (i : Instr) : Bool :=
  match encoding i with
  | .read _ => true
  | .write _ _ => false
  | .opByte _ => false

/-- The bytes of a number `w` of `nbits` bits, least significant byte first. -/
def tableBytes (nbits w : Nat) : List Byte :=
  (List.range ((nbits + 7) / 8)).map fun k => BitVec.ofNat 8 (w >>> (8 * k))

/-- The instruction the decoder reads from the bits `w` of a row of spec/opcode_table.json: 14 bits (two bytes) for a BTW
row, 8 bits (one byte) for an opcode-byte row. -/
def decodeTableWord (nbits w : Nat) : Option Instr :=
  match decode (tableBytes nbits w) with
  | .ok i => some i
  | .error _ => none

end Sys2Proof
end

