-- ==== Sys2Proof/WellFormed.lean ====
section
/-! DEFINITION. What may be run at all: which instructions the encoding tables admit, and which configurations
spec/20_memory.md rule R82 admits. -/

namespace Sys2Proof

/-- Does the byte belong to an opcode-byte row, given by its mask and its fixed bits (spec/opcode_table.json)? -/
def byteInRow (b mask fixed : Byte) : Bool := b &&& mask == fixed

/-- A well-formed instruction: an illegal opcode byte is one of its own row (30_encoding.md rules R93, R99). Every other
operand is a data byte, and every data byte is legal (rule R94). -/
def Instr.wellFormed : Instr → Bool
  | .rdData => true
  | .rdNoport01 => true
  | .rdSkip => true
  | .rdLinkarm => true
  | .rdUnmapped04 => true
  | .rdUnmapped05 => true
  | .rdUnmapped06 => true
  | .rdCell07 => true
  | .rdUnmapped08 => true
  | .rdUnmapped09 => true
  | .rdUnmapped0A => true
  | .rdUnmapped0B => true
  | .rdUnmapped0C => true
  | .rdUnmapped0D => true
  | .rdUnmapped0E => true
  | .rdUnmapped0F => true
  | .rdCell10 => true
  | .rdCell11 => true
  | .rdUnmapped12 => true
  | .rdUnmapped13 => true
  | .rdCell14 => true
  | .rdUnmapped15 => true
  | .rdUnmapped16 => true
  | .rdUnmapped17 => true
  | .rdUnmapped18 => true
  | .rdUnmapped19 => true
  | .rdUnmapped1A => true
  | .rdUnmapped1B => true
  | .rdUnmapped1C => true
  | .rdUnmapped1D => true
  | .rdUnmapped1E => true
  | .rdUnmapped1F => true
  | .wrNoport00 _ => true
  | .wrSerial _ => true
  | .wrNoport02 _ => true
  | .wrTrigger _ => true
  | .wrUnmapped04 _ => true
  | .wrUnmapped05 _ => true
  | .wrUnmapped06 _ => true
  | .wrCell07 _ => true
  | .wrUnmapped08 _ => true
  | .wrUnmapped09 _ => true
  | .wrUnmapped0A _ => true
  | .wrUnmapped0B _ => true
  | .wrUnmapped0C _ => true
  | .wrUnmapped0D _ => true
  | .wrUnmapped0E _ => true
  | .wrUnmapped0F _ => true
  | .wrCell10 _ => true
  | .wrCell11 _ => true
  | .wrUnmapped12 _ => true
  | .wrUnmapped13 _ => true
  | .wrCell14 _ => true
  | .wrUnmapped15 _ => true
  | .wrUnmapped16 _ => true
  | .wrUnmapped17 _ => true
  | .wrUnmapped18 _ => true
  | .wrUnmapped19 _ => true
  | .wrUnmapped1A _ => true
  | .wrUnmapped1B _ => true
  | .wrUnmapped1C _ => true
  | .wrUnmapped1D _ => true
  | .wrUnmapped1E _ => true
  | .wrUnmapped1F _ => true
  | .opPoke => true
  | .opPeek => true
  | .opIllegal0203 b => byteInRow b 0xFE 0x02
  | .opIllegal0407 b => byteInRow b 0xFC 0x04
  | .opIllegal080F b => byteInRow b 0xF8 0x08
  | .opIllegal101F b => byteInRow b 0xF0 0x10
  | .opIllegal203F b => byteInRow b 0xE0 0x20
  | .opIllegal407F b => byteInRow b 0xC0 0x40
  | .opIllegal80FF b => byteInRow b 0x80 0x80

/-- No two entries share a tag (20_memory.md rule R82, first invariant). -/
def tagsDistinct : List TagEntry → Bool
  | [] => true
  | e :: es => es.all (fun e' => e'.tag != e.tag) && tagsDistinct es

/-- No entry has the sentinel's tag (20_memory.md rule R82, second invariant). -/
def sentinelAbsent (table : List TagEntry) (sentinel : Word) : Bool :=
  table.all fun e => e.tag != sentinel

/-- An admissible configuration satisfies both invariants of 20_memory.md rule R82. `n` = 0 is admitted (00_scope.md rule
R17), and so is every `PORT_BASE` (rule R7). -/
def Setup.admissible (c : Setup) : Bool :=
  tagsDistinct c.tagTable && sentinelAbsent c.tagTable c.tagSentinel

end Sys2Proof
end

