-- ==== Sys2Proof/Machine/Params.lean ====
section
/-! DEFINITION. The parameters that are fixed for this hardware (spec/00_scope.md rules R7-R19), each one named constant
(spec/93_implementation_defined.md U1), and the configuration that `State.reset` has. -/

namespace Sys2Proof.Params

/-- The documented default of `PORT_BASE` (00_scope.md rule R7). -/
def portBaseDefault : Nat := 0x150

/-- `PORT_WINDOW` (00_scope.md rule R8): the number of consecutive port offsets the block decodes. -/
def portWindow : Nat := 0x20

/-- `MEM_BASE` (00_scope.md rule R9): the byte address of the first word of backing memory. -/
def memBase : Nat := 0x80000000

/-- `MEM_SIZE` (00_scope.md rule R10), in bytes. -/
def memSize : Nat := 0x200000

/-- `MEM_WORDS` (00_scope.md rule R10). -/
def memWords : Nat := memSize / 4

/-- `OOR_WORD` (00_scope.md rule R11): what a PEEK of an out-of-range address returns. -/
def oorWord : Word := 0x55AA55AA

/-- `LINK_FILLER` (00_scope.md rule R12): what a link read past the payload, or with no entry, returns. -/
def linkFiller : Byte := 0x5A

/-- `DEFAULT_READ` (00_scope.md rule R13): what a read that matches no rule, or a pulse read, returns. -/
def defaultRead : Byte := 0xFF

/-- `STATUS_MASK` (00_scope.md rule R14): the "no error" bit of register cell 0x10. -/
def statusMask : Byte := 0x01

/-- `OP_POKE` (00_scope.md rule R15). -/
def opPoke : Byte := 0x00

/-- `OP_PEEK` (00_scope.md rule R15). -/
def opPeek : Byte := 0x01

/-- `MEM_RESET_POLICY` (00_scope.md rule R19), fixed to `Preserve` for this hardware (log 16). -/
def memResetPolicy : MemResetPolicy := .preserve

/-- `FAULT_CODE` of UnsupportedOpcode (60_exceptions.md rule R241). -/
def unsupportedOpcode : Byte := 0x01

/-- `FAULT_CODE` of ProtocolViolation (60_exceptions.md rule R241). -/
def protocolViolation : Byte := 0x02

/-- The configuration of `State.reset`: the default `PORT_BASE`, an OPEN sentinel, and an OPEN table. A table that breaks
20_memory.md rule R82 gives no run, so the OPEN table is taken only if it is admissible, and is empty (00_scope.md rule R17
admits `n` = 0) otherwise: it ranges over exactly the admissible tables. Log 6, log 7, log 8. -/
def setupAtReset : Setup :=
  let c : Setup := ⟨portBaseDefault, Config.rawTagTable, Config.tagSentinel⟩
  ⟨portBaseDefault, if c.admissible then Config.rawTagTable else [], Config.tagSentinel⟩

end Sys2Proof.Params
end

