-- ==== Sys2Proof/Machine/State.lean ====
section
/-! DEFINITION. The state of the block (spec/10_state.md rules R30, R31), the configuration and the outputs that stand
beside it, the events the host has issued, and the machine right after power-on (rule R45). -/

namespace Sys2Proof.Machine

/-- ProtocolState: exactly 24 values (10_state.md rule R31). The index k of the spec's names runs over the four lanes. -/
inductive ProtocolState where
  /-- No operation in flight. -/
  | idle
  /-- Trigger seen; awaiting the opcode byte. -/
  | opcode
  /-- `POKE_Ak`: awaiting address byte k of a POKE. -/
  | pokeA (k : Lane)
  /-- `POKE_Vk`: awaiting value byte k of a POKE. -/
  | pokeV (k : Lane)
  /-- `PEEK_Ak`: awaiting address byte k of a PEEK. -/
  | peekA (k : Lane)
  /-- `PEEK_Dk`: word fetched; data byte k pending. -/
  | peekD (k : Lane)
  /-- `TAG_Tk`: awaiting tag byte k. -/
  | tagT (k : Lane)
  /-- Tag looked up; payload bytes pending. -/
  | link
  /-- A fault was raised; inert until reset. -/
  | fault
deriving DecidableEq, Repr

/-- What the state register holds: one of the 24 states, or one of the eight codes 0x18-0x1F that name none (10_state.md
rule R46, 60_exceptions.md rule R243). `unnamed c` is code 0x18 + c. No run from reset reaches `unnamed` (log 9). -/
inductive StateReg where
  | named (p : ProtocolState)
  | unnamed (c : Fin 8)
deriving DecidableEq, Repr

/-- The content under the words no POKE has written: content number `load` of `MEM_INIT` (00_scope.md rule R19), or zero
where a reset of policy `Zero` has cleared it. -/
structure MemFill where
  load : Nat
  zeroed : Bool
deriving DecidableEq, Repr

/-- A diagnostic event (60_exceptions.md rule R248). -/
structure DiagEvent where
  code : Byte
  info : Byte
deriving DecidableEq, Repr

/-- A host snapshot: the four stored register-file bytes only (70_reset_and_hazards.md rule R288). -/
structure Snapshot where
  cell07 : Byte
  cell10 : Byte
  cell11 : Byte
  cell14 : Byte
deriving DecidableEq, Repr

/-- One event the host issues (70_reset_and_hazards.md rules R286-R288). An access carries an I/O address; the bus decodes
it (20_memory.md rule R61). -/
inductive HostEvent where
  /-- A read access at I/O address `p`. -/
  | read (p : Nat)
  /-- A write access of `b` at I/O address `p`. -/
  | write (p : Nat) (b : Byte)
  /-- An activation with both strobes, `rd` = `wr` = 1, outside the host contract (30_encoding.md rule R92). -/
  | readWrite (p : Nat) (b : Byte)
  /-- The reset event (70_reset_and_hazards.md rule R280). -/
  | reset
  /-- A snapshot restore (70_reset_and_hazards.md rule R288). -/
  | restore (saved : Snapshot)
  /-- Configuration, then power-on, of the device (70_reset_and_hazards.md rules R283, R287). -/
  | powerOn (cfg : Setup)
deriving DecidableEq, Repr

/-- The state. The first thirteen fields are 10_state.md rule R30's (`mem` and `memFill` together are `MEM`); `cfg` is the
configuration, which rule R43 says no access changes; `rdata` and `diag` are the outputs of the last step (00_scope.md rule
R24); `pending` holds the events the host has issued, oldest first (log 1). -/
structure State where
  state : StateReg
  addr : Word
  val : Word
  tag : Word
  linkEnt : Option Nat
  linkOff : Nat
  cell07 : Byte
  cell10 : Byte
  cell11 : Byte
  cell14 : Byte
  mem : List Host.Cell
  memFill : MemFill
  faultCode : Byte
  faultInfo : Byte
  cfg : Setup
  rdata : Option Byte
  diag : Option DiagEvent
  pending : List HostEvent
deriving DecidableEq, Repr

/-- Why the machine stops with a fault: never. `Step` is total, never blocks and has no stuck state (00_scope.md rule R24,
70_reset_and_hazards.md rule R292). The block's own faults, UnsupportedOpcode and ProtocolViolation, lead to a next state,
`FAULT` (60_exceptions.md rule R244). Log 19. -/
inductive Fault where
deriving DecidableEq, Repr

/-- Why a step has no meaning. -/
inductive Refusal where
  /-- An instruction that has no meaning yet. Raised by `exec`'s refused arms, of which there is none. Safe. -/
  | notModelled (mnemonic : String)
  /-- Both strobes at once inside the port window: "a model has no step for it" (30_encoding.md rule R92, U13 of
  93_implementation_defined.md). Raised by `serve` on `HostEvent.readWrite`. Safe. -/
  | bothStrobes
  /-- A tag table that breaks 20_memory.md rule R82: the model "refuses a table that breaks either one, and gives it no
  run" (U5 of 93_implementation_defined.md). Raised by `serve` on `HostEvent.powerOn`. Safe. -/
  | inadmissibleTable
deriving DecidableEq, Repr

/-- The state right after power-on with configuration `cfg` and memory content number `load`, with nothing issued
(10_state.md rule R45, 70_reset_and_hazards.md rule R283). -/
def State.attached (cfg : Setup) (load : Nat) : State where
  state := .named .idle
  addr := 0
  val := 0
  tag := 0
  linkEnt := none
  linkOff := 0
  cell07 := 0
  cell10 := 0
  cell11 := 0
  cell14 := 0
  mem := []
  memFill := ⟨load, false⟩
  faultCode := 0
  faultInfo := 0
  cfg := cfg
  rdata := none
  diag := none
  pending := []

/-- The machine right after its first power-on (10_state.md rule R45): in `IDLE`, waiting for a host access
(70_reset_and_hazards.md rule R284). -/
def State.reset : State := State.attached Params.setupAtReset 0

end Sys2Proof.Machine
end

