-- ==== Sys2Proof/Machine/Flags.lean ====
section
/-! DEFINITION. The status the host can see. The block has no condition codes and no flag register (spec/10_state.md rule
R36): there is the "no error" bit of register cell 0x10 (rule R35) and the output signals (spec/30_encoding.md rule R92).
Here too is the 5-bit code of the state register (spec/10_state.md rule R46). -/

namespace Sys2Proof.Machine

/-- What a read of register cell 0x10 shows of its stored byte: bit 0 forced to 1 (10_state.md rule R35). -/
def withNoErrorBit (stored : Byte) : Byte := stored ||| Params.statusMask

/-- The code of each ProtocolState (10_state.md rule R46). -/
def ProtocolState.code : ProtocolState → BitVec 5
  | .idle => 0x00
  | .opcode => 0x01
  | .pokeA k => 0x02 + BitVec.ofNat 5 k.val
  | .pokeV k => 0x06 + BitVec.ofNat 5 k.val
  | .peekA k => 0x0A + BitVec.ofNat 5 k.val
  | .peekD k => 0x0E + BitVec.ofNat 5 k.val
  | .tagT k => 0x12 + BitVec.ofNat 5 k.val
  | .link => 0x16
  | .fault => 0x17

/-- The 5-bit code the state register holds (10_state.md rule R46): 0x18-0x1F name no state. -/
def StateReg.code : StateReg → BitVec 5
  | .named p => p.code
  | .unnamed c => 0x18 + BitVec.ofNat 5 c.val

/-- What the state register holds when its code is `c` (10_state.md rule R46). -/
def StateReg.ofCode (c : BitVec 5) : StateReg :=
  let n := c.toNat
  if n = 0x00 then .named .idle
  else if n = 0x01 then .named .opcode
  else if n < 0x06 then .named (.pokeA (Fin.ofNat 4 (n - 0x02)))
  else if n < 0x0A then .named (.pokeV (Fin.ofNat 4 (n - 0x06)))
  else if n < 0x0E then .named (.peekA (Fin.ofNat 4 (n - 0x0A)))
  else if n < 0x12 then .named (.peekD (Fin.ofNat 4 (n - 0x0E)))
  else if n < 0x16 then .named (.tagT (Fin.ofNat 4 (n - 0x12)))
  else if n = 0x16 then .named .link
  else if n = 0x17 then .named .fault
  else .unnamed (Fin.ofNat 8 (n - 0x18))

/-- The output signals (30_encoding.md rule R92). `rdata` is none where the last event returned no byte. -/
structure Outputs where
  rdata : Option Byte
  diagValid : Bool
  diagCode : Byte
  diagInfo : Byte
  faulted : Bool
deriving DecidableEq, Repr

/-- The output signals after the last event: `diag_code` and `diag_info` equal `FAULT_CODE` and `FAULT_INFO`, and
`faulted` is `state = FAULT` (30_encoding.md rule R92, 60_exceptions.md rule R248). -/
def State.outputs (s : State) : Outputs where
  rdata := s.rdata
  diagValid := s.diag.isSome
  diagCode := s.faultCode
  diagInfo := s.faultInfo
  faulted := s.state == .named .fault

end Sys2Proof.Machine
end

