-- ==== Sys2Proof/Machine/Operands.lean ====
section
/-! DEFINITION. Operand assembly: byte lanes of a word (spec/00_scope.md rule R21), four serial bytes as one operand
(spec/30_encoding.md rules R95, R96; spec/20_memory.md rule R69), and the next index of a phase. -/

namespace Sys2Proof.Machine

/-- `byte_k(w) = w[8k+7:8k]` (00_scope.md rule R21). -/
def byteLane (w : Word) (k : Lane) : Byte := w.extractLsb' (8 * k.val) 8

/-- `setbyte(w, k, b)`: bits 8k+7 to 8k replaced by b, every other bit kept (00_scope.md rule R21). -/
def setByte (w : Word) (k : Lane) (b : Byte) : Word :=
  (w &&& ~~~(0xFF#32 <<< (8 * k.val))) ||| (b.setWidth 32 <<< (8 * k.val))

/-- `b0 | (b1 << 8) | (b2 << 16) | (b3 << 24)` (30_encoding.md rule R95). -/
def assemble (b0 b1 b2 b3 : Byte) : Word :=
  b0.setWidth 32 ||| (b1.setWidth 32 <<< 8) ||| (b2.setWidth 32 <<< 16) ||| (b3.setWidth 32 <<< 24)

/-- The index after k in a phase of four bytes, none after 3. -/
def nextLane (k : Lane) : Option Lane :=
  match k with
  | 0 => some 1
  | 1 => some 2
  | 2 => some 3
  | 3 => none

end Sys2Proof.Machine
end

