-- ==== Sys2Proof/Machine/Ops.lean ====
section
/-! DEFINITION. The named operations over the state: one update per field, what an access returns, backing memory
(spec/20_memory.md rules R63-R68), the tag/link table and its cursor (spec/42_tag_link.md rules R183, R184, R186), raising a
fault (spec/60_exceptions.md rule R244), the only way out of it, reset (spec/70_reset_and_hazards.md rule R280), and
power-on and restore (rules R283, R288). -/

namespace Sys2Proof.Machine

/-! ### One update per field -/

/-- `state <- p`. -/
def State.goto (s : State) (p : ProtocolState) : State := { s with state := .named p }

/-- `ADDR <- w`. -/
def State.setAddr (s : State) (w : Word) : State := { s with addr := w }

/-- `VAL <- w`. -/
def State.setVal (s : State) (w : Word) : State := { s with val := w }

/-- `TAG <- w`. -/
def State.setTag (s : State) (w : Word) : State := { s with tag := w }

/-- `LINK_ENT <- e; LINK_OFF <- o`. -/
def State.setCursor (s : State) (e : Option Nat) (o : Nat) : State := { s with linkEnt := e, linkOff := o }

/-- `cell[0x07] <- b`. -/
def State.setCell07 (s : State) (b : Byte) : State := { s with cell07 := b }

/-- `cell[0x10] <- b`. -/
def State.setCell10 (s : State) (b : Byte) : State := { s with cell10 := b }

/-- `cell[0x11] <- b`. -/
def State.setCell11 (s : State) (b : Byte) : State := { s with cell11 := b }

/-- `cell[0x14] <- b`. -/
def State.setCell14 (s : State) (b : Byte) : State := { s with cell14 := b }

/-- The bytes POKEs have written become `m`. -/
def State.setMem (s : State) (m : List Host.Cell) : State := { s with mem := m }

/-- The content under the words no POKE has written becomes `f`. -/
def State.setMemFill (s : State) (f : MemFill) : State := { s with memFill := f }

/-- `FAULT_CODE <- code; FAULT_INFO <- info`. -/
def State.setFault (s : State) (code info : Byte) : State := { s with faultCode := code, faultInfo := info }

/-- The outputs of an access that emits no diagnostic event: the byte it returns, if any (00_scope.md rule R24). -/
def State.reply (s : State) (out : Option Byte) : State := { s with rdata := out, diag := none }

/-- The outputs of an access that raises a fault: the byte it returns, if any, and its one event. -/
def State.report (s : State) (out : Option Byte) (d : DiagEvent) : State := { s with rdata := out, diag := some d }

/-- The events still to be served become `es`. -/
def State.setPending (s : State) (es : List HostEvent) : State := { s with pending := es }

/-! ### No effect -/

/-- A read that matches no rule returns `DEFAULT_READ` and changes nothing (40_framing.md rule R123, 00_scope.md rule
R25). -/
def noMatchRead (s : State) : State := s.reply (some Params.defaultRead)

/-- A write that matches no rule is ignored (40_framing.md rule R123). -/
def noMatchWrite (s : State) : State := s.reply none

/-! ### Backing memory -/

/-- In range (20_memory.md rule R64): the comparison is on unbounded naturals (00_scope.md rule R20). -/
def inRange (a : Nat) : Bool := decide (Params.memBase ≤ a) && decide (a < Params.memBase + Params.memSize)

/-- `idx(a)`, the word that contains byte address a (20_memory.md rule R65). -/
def wordIndex (a : Nat) : Nat := (a - Params.memBase) / 4

/-- The byte address of lane k of word i. -/
def byteAddress (i : Nat) (k : Lane) : Nat := Params.memBase + 4 * i + k.val

/-- What an address that no entry lists reads as: no value, that is, no POKE has written it. The word then holds the fill
(20_memory.md rule R80; log 5). -/
def Memory.unlisted (_a : Nat) : Option Byte := none

/-- The byte written at an address, if a POKE has written it. -/
def Memory.find : List Host.Cell → Nat → Option Byte
  | [], a => Memory.unlisted a
  | c :: m, a => if c.1 = a then some c.2 else Memory.find m a

/-- Write one byte, keeping the addresses strictly rising. -/
def Memory.put : List Host.Cell → Nat → Byte → List Host.Cell
  | [], a, b => [(a, b)]
  | c :: m, a, b =>
    if a < c.1 then (a, b) :: c :: m
    else if a = c.1 then (a, b) :: m
    else c :: Memory.put m a b

/-- Write the four bytes of word i, lane k at byte `byteAddress i k` (log 5). -/
def Memory.putWord (m : List Host.Cell) (i : Nat) (w : Word) : List Host.Cell :=
  Memory.put (Memory.put (Memory.put (Memory.put m
    (byteAddress i 0) (byteLane w 0)) (byteAddress i 1) (byteLane w 1))
    (byteAddress i 2) (byteLane w 2)) (byteAddress i 3) (byteLane w 3)

/-- The addresses rise strictly. -/
def Memory.rising : List Host.Cell → Bool
  | [] => true
  | [_] => true
  | c :: d :: m => decide (c.1 < d.1) && Memory.rising (d :: m)

/-- The canonical form: addresses strictly rising, each in range, no entry equal to what an unlisted address reads as, and a
word's four bytes listed together (41_poke_peek.md rule R151: memory never holds a partly written word). -/
def Memory.wf (m : List Host.Cell) : Bool :=
  Memory.rising m
    && m.all (fun c => inRange c.1)
    && m.all (fun c => Memory.unlisted c.1 != some c.2)
    && m.all (fun c => (List.finRange 4).all fun k => (Memory.find m (byteAddress (wordIndex c.1) k)).isSome)

/-- Word i of the content under the words no POKE has written. -/
def MemFill.word (f : MemFill) (i : Nat) : Word :=
  if f.zeroed then 0 else Config.memInit f.load i

/-- Lane k of `MEM[i]`. -/
def memLane (s : State) (i : Nat) (k : Lane) : Byte :=
  (Memory.find s.mem (byteAddress i k)).getD (byteLane (s.memFill.word i) k)

/-- `MEM[i]`, backing-memory word i (10_state.md rule R41). -/
def memWord (s : State) (i : Nat) : Word :=
  assemble (memLane s i 0) (memLane s i 1) (memLane s i 2) (memLane s i 3)

/-- `MemRead(a, 4)` (20_memory.md rule R66). -/
def memRead (s : State) (a : Word) : Word :=
  if inRange a.toNat then memWord s (wordIndex a.toNat) else Params.oorWord

/-- `MemWrite(a, 4, v)` (20_memory.md rule R67). -/
def memWrite (s : State) (a v : Word) : State :=
  if inRange a.toNat then s.setMem (Memory.putWord s.mem (wordIndex a.toNat) v) else s

/-- The read of one byte of memory: lane `a mod 4` of what a PEEK of byte address `a` gives, out of range included. -/
def memByte (s : State) (a : Word) : Byte := byteLane (memRead s a) (Fin.ofNat 4 a.toNat)

/-! ### The tag/link table and its cursor -/

/-- `Lookup(t)` (42_tag_link.md rule R183). -/
def lookup (c : Setup) (t : Word) : Option Nat :=
  if t = c.tagSentinel then none else c.tagTable.findIdx? fun e => e.tag == t

/-- The payload of entry `i`; no byte where the table has no such entry (log 12). -/
def payloadOf (c : Setup) (i : Nat) : List Byte :=
  match c.tagTable[i]? with
  | some e => e.payload
  | none => []

/-- `ReadAt(e, o)` (42_tag_link.md rule R184). -/
def readAt (c : Setup) (e : Option Nat) (o : Nat) : Byte :=
  match e with
  | none => Params.linkFiller
  | some i => (payloadOf c i).getD o Params.linkFiller

/-- `Advance()` (42_tag_link.md rule R186). -/
def advance (s : State) : State :=
  match s.linkEnt with
  | none => s
  | some i => if s.linkOff < (payloadOf s.cfg i).length then s.setCursor (some i) (s.linkOff + 1) else s

/-! ### Taking a fault, and the way out -/

/-- `raise Fault(code, info)` by an access that returns `out` (60_exceptions.md rule R244): nothing is saved, and nothing
else changes. -/
def raiseFault (code info : Byte) (out : Option Byte) (s : State) : State :=
  ((s.goto .fault).setFault code info).report out ⟨code, info⟩

/-- `MEM_RESET_POLICY` at an explicit reset (70_reset_and_hazards.md rule R280). -/
def resetMemory (policy : MemResetPolicy) (s : State) : State :=
  match policy with
  | .preserve => s
  | .zero => (s.setMem []).setMemFill ⟨s.memFill.load, true⟩

/-- The reset event (70_reset_and_hazards.md rule R280), the only exit from `FAULT` (60_exceptions.md rule R247). -/
def resetBlock (s : State) : State :=
  resetMemory Params.memResetPolicy
    { State.attached s.cfg s.memFill.load with mem := s.mem, memFill := s.memFill, pending := s.pending }

/-- The four bytes a host snapshot holds: the stored cells (70_reset_and_hazards.md rule R288). -/
def State.snapshot (s : State) : Snapshot := ⟨s.cell07, s.cell10, s.cell11, s.cell14⟩

/-- A snapshot restore (70_reset_and_hazards.md rule R288): a reset, then the saved bytes are written into the cells.
Memory may hold any content afterwards, so it takes a fresh one (log 13). -/
def restoreSnapshot (saved : Snapshot) (s : State) : State :=
  (((((((resetBlock s).setMem []).setMemFill ⟨s.memFill.load + 1, false⟩).setCell07 saved.cell07).setCell10
    saved.cell10).setCell11 saved.cell11).setCell14 saved.cell14)

/-- Configuration and power-on (70_reset_and_hazards.md rules R283, R287): the power-on values of 10_state.md rule R45, over
a fresh content of memory (log 14). -/
def powerOnWith (cfg : Setup) (s : State) : State :=
  (State.attached cfg (s.memFill.load + 1)).setPending s.pending

/-! ### The PP-FSM's pre-checks -/

/-- The pre-checks of an access at offsets 0x00-0x03 that returns `out` when it does nothing (40_framing.md rule R122): a
state register that names no state raises ProtocolViolation (60_exceptions.md rule R243), `FAULT` is inert (rule R245),
and otherwise the rule of the access kind applies to the state `p`. -/
def ppAccess (out : Option Byte) (rule : ProtocolState → State → State) (s : State) : State :=
  match s.state with
  | .unnamed c => raiseFault Params.protocolViolation ((StateReg.unnamed c).code.setWidth 8) out s
  | .named .fault => s.reply out
  | .named p => rule p s

end Sys2Proof.Machine
end

