-- ==== Sys2Proof/Machine/Bus.lean ====
section
/-! DEFINITION. From a host access to an instruction: port decode (spec/20_memory.md rule R61), the bus transaction word
(spec/30_encoding.md rule R91), and the two levels of decode (rules R93, R98). Also the access notation and the
pseudo-operations (rules R102, R103), and what the next steps return to the host. -/

namespace Sys2Proof.Machine

/-- Port decode: the offset the block sees when I/O address `p` selects it (20_memory.md rule R61). -/
def busSelect (base p : Nat) : Option (BitVec 5) :=
  if base ≤ p ∧ p < base + Params.portWindow then some (BitVec.ofNat 5 (p - base)) else none

/-- The instruction that a BTW is in state `s`: the first-level decode, and in `OPCODE` the second-level decode of the byte
that `WR_SERIAL` carries (30_encoding.md rules R93, R98, R99). -/
def instrAt (s : State) (w : BitVec 14) : Instr :=
  match s.state, decodeBtw w with
  | .named .opcode, .wrSerial b => decodeOpByte b
  | _, i => i

/-- The event by which the host issues a BTW (30_encoding.md rule R91) to a block at `base`. -/
def eventOfBtw (base : Nat) (w : BitVec 14) : HostEvent :=
  if btwIsWrite w then .write (base + (btwOffset w).toNat) (btwData w) else .read (base + (btwOffset w).toNat)

/-- Nothing reaches the block: no output, no change (20_memory.md rule R61; an empty list of events, log 2). -/
def notReached (s : State) : State := s.reply none

/-! ### Access notation and pseudo-operations -/

/-- `RD off` (30_encoding.md rule R102). -/
def rd (off : BitVec 5) : BitVec 14 := busWord false off 0x00

/-- `WR off, data` (30_encoding.md rule R102). -/
def wr (off : BitVec 5) (data : Byte) : BitVec 14 := busWord true off data

/-- Four serial bytes, lane 0 first (20_memory.md rule R69). -/
def wrWord (w : Word) : List (BitVec 14) := (List.finRange 4).map fun k => wr 0x01 (byteLane w k)

/-- `TRIG` (30_encoding.md rule R103). -/
def trigAccess : BitVec 14 := wr 0x03 0x00

/-- `POKE a, v` (30_encoding.md rule R103): 10 accesses. -/
def pokeAccesses (a v : Word) : List (BitVec 14) := trigAccess :: wr 0x01 0x00 :: (wrWord a ++ wrWord v)

/-- `PEEK a` (30_encoding.md rule R103): 10 accesses. -/
def peekAccesses (a : Word) : List (BitVec 14) :=
  trigAccess :: wr 0x01 0x01 :: (wrWord a ++ List.replicate 4 (rd 0x00))

/-- `LINK t, m` (30_encoding.md rule R103): 5 + m accesses. -/
def linkAccesses (t : Word) (m : Nat) : List (BitVec 14) :=
  rd 0x03 :: (wrWord t ++ List.replicate m (rd 0x00))

/-- `SKIP` (30_encoding.md rule R103). -/
def skipAccess : BitVec 14 := rd 0x02

/-- The host issues accesses, after everything it has issued before. -/
def State.issue (s : State) (ws : List (BitVec 14)) : State :=
  s.setPending (s.pending ++ ws.map (eventOfBtw s.cfg.portBase))

end Sys2Proof.Machine
end

