-- ==== Sys2Proof/Machine/PokePeek.lean ====
section
/-! DEFINITION. The phases of the serial link: opcode and address phases (spec/40_framing.md rules R126, R127), the POKE
value phase and the PEEK fetch (spec/41_poke_peek.md rules R150, R152), the tag phase (spec/42_tag_link.md rule R182), and
the output steps (spec/41_poke_peek.md rules R153, R154; spec/42_tag_link.md rules R185, R187). The access kinds that
dispatch to them are in Machine/Framing.lean. -/

namespace Sys2Proof.Machine

/-- Opcode phase: `WR_SERIAL` in `OPCODE` (40_framing.md rule R126). -/
def opcodePhase (b : Byte) (s : State) : State :=
  if b = Params.opPoke then (s.goto (.pokeA 0)).reply none
  else if b = Params.opPeek then (s.goto (.peekA 0)).reply none
  else raiseFault Params.unsupportedOpcode b none s

/-- Address phase of a POKE: `WR_SERIAL` in `POKE_Ak` (40_framing.md rule R127). -/
def pokeAddressPhase (k : Lane) (b : Byte) (s : State) : State :=
  let s := s.setAddr (setByte s.addr k b)
  match nextLane k with
  | some j => (s.goto (.pokeA j)).reply none
  | none => (s.goto (.pokeV 0)).reply none

/-- The PEEK fetch (41_poke_peek.md rule R152): the word is latched in `VAL` as soon as the address is complete. -/
def peekFetch (s : State) : State := (s.setVal (memRead s s.addr)).goto (.peekD 0)

/-- Address phase of a PEEK: `WR_SERIAL` in `PEEK_Ak` (40_framing.md rule R127). -/
def peekAddressPhase (k : Lane) (b : Byte) (s : State) : State :=
  let s := s.setAddr (setByte s.addr k b)
  match nextLane k with
  | some j => (s.goto (.peekA j)).reply none
  | none => (peekFetch s).reply none

/-- POKE value phase: `WR_SERIAL` in `POKE_Vk` (41_poke_peek.md rule R150). The store happens once, with the last byte. -/
def pokeValuePhase (k : Lane) (b : Byte) (s : State) : State :=
  let s := s.setVal (setByte s.val k b)
  match nextLane k with
  | some j => (s.goto (.pokeV j)).reply none
  | none => ((memWrite s s.addr s.val).goto .idle).reply none

/-- Tag phase: `WR_SERIAL` in `TAG_Tk` (42_tag_link.md rule R182). The last byte looks the tag up and arms the cursor. -/
def tagPhase (k : Lane) (b : Byte) (s : State) : State :=
  let s := s.setTag (setByte s.tag k b)
  match nextLane k with
  | some j => (s.goto (.tagT j)).reply none
  | none => ((s.setCursor (lookup s.cfg s.tag) 0).goto .link).reply none

/-- The state after data byte k of a PEEK has been consumed (41_poke_peek.md rules R153, R154). -/
def afterPeekByte (k : Lane) : ProtocolState :=
  match nextLane k with
  | some j => .peekD j
  | none => .idle

/-- PEEK output: `RD_DATA` in `PEEK_Dk` (41_poke_peek.md rule R153). -/
def peekOutput (k : Lane) (s : State) : State := (s.goto (afterPeekByte k)).reply (some (byteLane s.val k))

/-- PEEK skip: `RD_SKIP` in `PEEK_Dk` (41_poke_peek.md rule R154). -/
def peekSkip (k : Lane) (s : State) : State := (s.goto (afterPeekByte k)).reply (some Params.defaultRead)

/-- Link read: `RD_DATA` in `LINK` (42_tag_link.md rule R185); the byte is computed before the cursor advances. -/
def linkRead (s : State) : State := (advance s).reply (some (readAt s.cfg s.linkEnt s.linkOff))

/-- Link skip: `RD_SKIP` in `LINK` (42_tag_link.md rule R187). -/
def linkSkip (s : State) : State := (advance s).reply (some Params.defaultRead)

/-- The serial input byte in a state the pre-checks let through (40_framing.md rule R125). -/
def serialRule (b : Byte) (p : ProtocolState) (s : State) : State :=
  match p with
  | .opcode => opcodePhase b s
  | .pokeA k => pokeAddressPhase k b s
  | .peekA k => peekAddressPhase k b s
  | .pokeV k => pokeValuePhase k b s
  | .tagT k => tagPhase k b s
  | .idle => noMatchWrite s
  | .peekD _ => noMatchWrite s
  | .link => noMatchWrite s
  | .fault => noMatchWrite s

/-- The access `Write(0x01, b)` (40_framing.md rules R122, R125). -/
def serialByte (b : Byte) (s : State) : State := ppAccess none (serialRule b) s

end Sys2Proof.Machine
end

