-- ==== Sys2Proof/Machine/Framing.lean ====
section
/-! DEFINITION. The access kinds of the PP-FSM's ports that spec/40_framing.md gives: the opcode trigger, the serial input
byte, and the read dispatch at offsets 0x00 and 0x02. -/

namespace Sys2Proof.Machine

/-- `WR_TRIGGER` in a state the pre-checks let through (40_framing.md rule R124): accepted in `IDLE` and `LINK`. -/
def triggerRule (p : ProtocolState) (s : State) : State :=
  match p with
  | .idle => ((s.setCursor none 0).goto .opcode).reply none
  | .link => ((s.setCursor none 0).goto .opcode).reply none
  | .opcode => noMatchWrite s
  | .pokeA _ => noMatchWrite s
  | .pokeV _ => noMatchWrite s
  | .peekA _ => noMatchWrite s
  | .peekD _ => noMatchWrite s
  | .tagT _ => noMatchWrite s
  | .fault => noMatchWrite s

/-- `WR_TRIGGER`, Write(0x03, b): the data byte is ignored (40_framing.md rule R124). -/
def execWrTrigger (_b : Byte) (s : State) : Host.Outcome State Fault Refusal := .next (ppAccess none triggerRule s)

/-- `WR_SERIAL`, Write(0x01, b) (40_framing.md rule R125). -/
def execWrSerial (b : Byte) (s : State) : Host.Outcome State Fault Refusal := .next (serialByte b s)

/-- `RD_DATA` in a state the pre-checks let through (40_framing.md rule R134). -/
def dataRule (p : ProtocolState) (s : State) : State :=
  match p with
  | .peekD k => peekOutput k s
  | .link => linkRead s
  | .idle => noMatchRead s
  | .opcode => noMatchRead s
  | .pokeA _ => noMatchRead s
  | .pokeV _ => noMatchRead s
  | .peekA _ => noMatchRead s
  | .tagT _ => noMatchRead s
  | .fault => noMatchRead s

/-- `RD_DATA`, Read(0x00) (40_framing.md rule R134). -/
def execRdData (s : State) : Host.Outcome State Fault Refusal :=
  .next (ppAccess (some Params.defaultRead) dataRule s)

/-- `RD_SKIP` in a state the pre-checks let through (40_framing.md rule R135). -/
def skipRule (p : ProtocolState) (s : State) : State :=
  match p with
  | .peekD k => peekSkip k s
  | .link => linkSkip s
  | .idle => noMatchRead s
  | .opcode => noMatchRead s
  | .pokeA _ => noMatchRead s
  | .pokeV _ => noMatchRead s
  | .peekA _ => noMatchRead s
  | .tagT _ => noMatchRead s
  | .fault => noMatchRead s

/-- `RD_SKIP`, Read(0x02) (40_framing.md rule R135). -/
def execRdSkip (s : State) : Host.Outcome State Fault Refusal :=
  .next (ppAccess (some Params.defaultRead) skipRule s)

end Sys2Proof.Machine
end

