-- ==== Sys2Proof/Machine/NoOp.lean ====
section
/-! DEFINITION. The no-op access kinds: wrong-direction accesses (spec/40_framing.md rule R128) and unmapped offsets (rule
R129). In every state, `FAULT` and a state register that names no state included, a read returns `DEFAULT_READ` and a write
is ignored: the PP-FSM's pre-checks do not apply to them (rule R120 step 3, 60_exceptions.md rule R246). -/

namespace Sys2Proof.Machine

/-- `RD_NOPORT01` (40_framing.md rule R128). -/
def execRdNoport01 (s : State) : Host.Outcome State Fault Refusal := .next (noMatchRead s)

/-- `RD_UNMAPPED_04` (40_framing.md rule R129). -/
def execRdUnmapped04 (s : State) : Host.Outcome State Fault Refusal := .next (noMatchRead s)

/-- `RD_UNMAPPED_05` (40_framing.md rule R129). -/
def execRdUnmapped05 (s : State) : Host.Outcome State Fault Refusal := .next (noMatchRead s)

/-- `RD_UNMAPPED_06` (40_framing.md rule R129). -/
def execRdUnmapped06 (s : State) : Host.Outcome State Fault Refusal := .next (noMatchRead s)

/-- `RD_UNMAPPED_08` (40_framing.md rule R129). -/
def execRdUnmapped08 (s : State) : Host.Outcome State Fault Refusal := .next (noMatchRead s)

/-- `RD_UNMAPPED_09` (40_framing.md rule R129). -/
def execRdUnmapped09 (s : State) : Host.Outcome State Fault Refusal := .next (noMatchRead s)

/-- `RD_UNMAPPED_0A` (40_framing.md rule R129). -/
def execRdUnmapped0A (s : State) : Host.Outcome State Fault Refusal := .next (noMatchRead s)

/-- `RD_UNMAPPED_0B` (40_framing.md rule R129). -/
def execRdUnmapped0B (s : State) : Host.Outcome State Fault Refusal := .next (noMatchRead s)

/-- `RD_UNMAPPED_0C` (40_framing.md rule R129). -/
def execRdUnmapped0C (s : State) : Host.Outcome State Fault Refusal := .next (noMatchRead s)

/-- `RD_UNMAPPED_0D` (40_framing.md rule R129). -/
def execRdUnmapped0D (s : State) : Host.Outcome State Fault Refusal := .next (noMatchRead s)

/-- `RD_UNMAPPED_0E` (40_framing.md rule R129). -/
def execRdUnmapped0E (s : State) : Host.Outcome State Fault Refusal := .next (noMatchRead s)

/-- `RD_UNMAPPED_0F` (40_framing.md rule R129). -/
def execRdUnmapped0F (s : State) : Host.Outcome State Fault Refusal := .next (noMatchRead s)

/-- `RD_UNMAPPED_12` (40_framing.md rule R129). -/
def execRdUnmapped12 (s : State) : Host.Outcome State Fault Refusal := .next (noMatchRead s)

/-- `RD_UNMAPPED_13` (40_framing.md rule R129). -/
def execRdUnmapped13 (s : State) : Host.Outcome State Fault Refusal := .next (noMatchRead s)

/-- `RD_UNMAPPED_15` (40_framing.md rule R129). -/
def execRdUnmapped15 (s : State) : Host.Outcome State Fault Refusal := .next (noMatchRead s)

/-- `RD_UNMAPPED_16` (40_framing.md rule R129). -/
def execRdUnmapped16 (s : State) : Host.Outcome State Fault Refusal := .next (noMatchRead s)

/-- `RD_UNMAPPED_17` (40_framing.md rule R129). -/
def execRdUnmapped17 (s : State) : Host.Outcome State Fault Refusal := .next (noMatchRead s)

/-- `RD_UNMAPPED_18` (40_framing.md rule R129). -/
def execRdUnmapped18 (s : State) : Host.Outcome State Fault Refusal := .next (noMatchRead s)

/-- `RD_UNMAPPED_19` (40_framing.md rule R129). -/
def execRdUnmapped19 (s : State) : Host.Outcome State Fault Refusal := .next (noMatchRead s)

/-- `RD_UNMAPPED_1A` (40_framing.md rule R129). -/
def execRdUnmapped1A (s : State) : Host.Outcome State Fault Refusal := .next (noMatchRead s)

/-- `RD_UNMAPPED_1B` (40_framing.md rule R129). -/
def execRdUnmapped1B (s : State) : Host.Outcome State Fault Refusal := .next (noMatchRead s)

/-- `RD_UNMAPPED_1C` (40_framing.md rule R129). -/
def execRdUnmapped1C (s : State) : Host.Outcome State Fault Refusal := .next (noMatchRead s)

/-- `RD_UNMAPPED_1D` (40_framing.md rule R129). -/
def execRdUnmapped1D (s : State) : Host.Outcome State Fault Refusal := .next (noMatchRead s)

/-- `RD_UNMAPPED_1E` (40_framing.md rule R129). -/
def execRdUnmapped1E (s : State) : Host.Outcome State Fault Refusal := .next (noMatchRead s)

/-- `RD_UNMAPPED_1F` (40_framing.md rule R129). -/
def execRdUnmapped1F (s : State) : Host.Outcome State Fault Refusal := .next (noMatchRead s)

/-- `WR_NOPORT00` (40_framing.md rule R128). -/
def execWrNoport00 (_b : Byte) (s : State) : Host.Outcome State Fault Refusal := .next (noMatchWrite s)

/-- `WR_NOPORT02` (40_framing.md rule R128). -/
def execWrNoport02 (_b : Byte) (s : State) : Host.Outcome State Fault Refusal := .next (noMatchWrite s)

/-- `WR_UNMAPPED_04` (40_framing.md rule R129). -/
def execWrUnmapped04 (_b : Byte) (s : State) : Host.Outcome State Fault Refusal := .next (noMatchWrite s)

/-- `WR_UNMAPPED_05` (40_framing.md rule R129). -/
def execWrUnmapped05 (_b : Byte) (s : State) : Host.Outcome State Fault Refusal := .next (noMatchWrite s)

/-- `WR_UNMAPPED_06` (40_framing.md rule R129). -/
def execWrUnmapped06 (_b : Byte) (s : State) : Host.Outcome State Fault Refusal := .next (noMatchWrite s)

/-- `WR_UNMAPPED_08` (40_framing.md rule R129). -/
def execWrUnmapped08 (_b : Byte) (s : State) : Host.Outcome State Fault Refusal := .next (noMatchWrite s)

/-- `WR_UNMAPPED_09` (40_framing.md rule R129). -/
def execWrUnmapped09 (_b : Byte) (s : State) : Host.Outcome State Fault Refusal := .next (noMatchWrite s)

/-- `WR_UNMAPPED_0A` (40_framing.md rule R129). -/
def execWrUnmapped0A (_b : Byte) (s : State) : Host.Outcome State Fault Refusal := .next (noMatchWrite s)

/-- `WR_UNMAPPED_0B` (40_framing.md rule R129). -/
def execWrUnmapped0B (_b : Byte) (s : State) : Host.Outcome State Fault Refusal := .next (noMatchWrite s)

/-- `WR_UNMAPPED_0C` (40_framing.md rule R129). -/
def execWrUnmapped0C (_b : Byte) (s : State) : Host.Outcome State Fault Refusal := .next (noMatchWrite s)

/-- `WR_UNMAPPED_0D` (40_framing.md rule R129). -/
def execWrUnmapped0D (_b : Byte) (s : State) : Host.Outcome State Fault Refusal := .next (noMatchWrite s)

/-- `WR_UNMAPPED_0E` (40_framing.md rule R129). -/
def execWrUnmapped0E (_b : Byte) (s : State) : Host.Outcome State Fault Refusal := .next (noMatchWrite s)

/-- `WR_UNMAPPED_0F` (40_framing.md rule R129). -/
def execWrUnmapped0F (_b : Byte) (s : State) : Host.Outcome State Fault Refusal := .next (noMatchWrite s)

/-- `WR_UNMAPPED_12` (40_framing.md rule R129). -/
def execWrUnmapped12 (_b : Byte) (s : State) : Host.Outcome State Fault Refusal := .next (noMatchWrite s)

/-- `WR_UNMAPPED_13` (40_framing.md rule R129). -/
def execWrUnmapped13 (_b : Byte) (s : State) : Host.Outcome State Fault Refusal := .next (noMatchWrite s)

/-- `WR_UNMAPPED_15` (40_framing.md rule R129). -/
def execWrUnmapped15 (_b : Byte) (s : State) : Host.Outcome State Fault Refusal := .next (noMatchWrite s)

/-- `WR_UNMAPPED_16` (40_framing.md rule R129). -/
def execWrUnmapped16 (_b : Byte) (s : State) : Host.Outcome State Fault Refusal := .next (noMatchWrite s)

/-- `WR_UNMAPPED_17` (40_framing.md rule R129). -/
def execWrUnmapped17 (_b : Byte) (s : State) : Host.Outcome State Fault Refusal := .next (noMatchWrite s)

/-- `WR_UNMAPPED_18` (40_framing.md rule R129). -/
def execWrUnmapped18 (_b : Byte) (s : State) : Host.Outcome State Fault Refusal := .next (noMatchWrite s)

/-- `WR_UNMAPPED_19` (40_framing.md rule R129). -/
def execWrUnmapped19 (_b : Byte) (s : State) : Host.Outcome State Fault Refusal := .next (noMatchWrite s)

/-- `WR_UNMAPPED_1A` (40_framing.md rule R129). -/
def execWrUnmapped1A (_b : Byte) (s : State) : Host.Outcome State Fault Refusal := .next (noMatchWrite s)

/-- `WR_UNMAPPED_1B` (40_framing.md rule R129). -/
def execWrUnmapped1B (_b : Byte) (s : State) : Host.Outcome State Fault Refusal := .next (noMatchWrite s)

/-- `WR_UNMAPPED_1C` (40_framing.md rule R129). -/
def execWrUnmapped1C (_b : Byte) (s : State) : Host.Outcome State Fault Refusal := .next (noMatchWrite s)

/-- `WR_UNMAPPED_1D` (40_framing.md rule R129). -/
def execWrUnmapped1D (_b : Byte) (s : State) : Host.Outcome State Fault Refusal := .next (noMatchWrite s)

/-- `WR_UNMAPPED_1E` (40_framing.md rule R129). -/
def execWrUnmapped1E (_b : Byte) (s : State) : Host.Outcome State Fault Refusal := .next (noMatchWrite s)

/-- `WR_UNMAPPED_1F` (40_framing.md rule R129). -/
def execWrUnmapped1F (_b : Byte) (s : State) : Host.Outcome State Fault Refusal := .next (noMatchWrite s)

end Sys2Proof.Machine
end

