-- ==== Sys2Proof/Machine/OpByte.lean ====
section
/-! DEFINITION. The opcode bytes (spec/30_encoding.md rule R93): the second-level decode of the byte that `WR_SERIAL` carries in
state `OPCODE`. The meaning of an opcode byte is that of the access that carries it, `Write(0x01, byte)`: in `OPCODE` it selects an
operation or raises UnsupportedOpcode (40_framing.md rule R126), and elsewhere the byte is no opcode byte and 40_framing.md
rule R125 says what the access does (log 10). -/

namespace Sys2Proof.Machine

/-- `OP_POKE` (40_framing.md rule R126). -/
def execOpPoke (s : State) : Host.Outcome State Fault Refusal := .next (serialByte Params.opPoke s)

/-- `OP_PEEK` (40_framing.md rule R126). -/
def execOpPeek (s : State) : Host.Outcome State Fault Refusal := .next (serialByte Params.opPeek s)

/-- `OP_ILLEGAL_02_03`: UnsupportedOpcode in `OPCODE` (60_exceptions.md rule R242). -/
def execOpIllegal0203 (b : Byte) (s : State) : Host.Outcome State Fault Refusal := .next (serialByte b s)

/-- `OP_ILLEGAL_04_07`: UnsupportedOpcode in `OPCODE` (60_exceptions.md rule R242). -/
def execOpIllegal0407 (b : Byte) (s : State) : Host.Outcome State Fault Refusal := .next (serialByte b s)

/-- `OP_ILLEGAL_08_0F`: UnsupportedOpcode in `OPCODE` (60_exceptions.md rule R242). -/
def execOpIllegal080F (b : Byte) (s : State) : Host.Outcome State Fault Refusal := .next (serialByte b s)

/-- `OP_ILLEGAL_10_1F`: UnsupportedOpcode in `OPCODE` (60_exceptions.md rule R242). -/
def execOpIllegal101F (b : Byte) (s : State) : Host.Outcome State Fault Refusal := .next (serialByte b s)

/-- `OP_ILLEGAL_20_3F`: UnsupportedOpcode in `OPCODE` (60_exceptions.md rule R242). -/
def execOpIllegal203F (b : Byte) (s : State) : Host.Outcome State Fault Refusal := .next (serialByte b s)

/-- `OP_ILLEGAL_40_7F`: UnsupportedOpcode in `OPCODE` (60_exceptions.md rule R242). -/
def execOpIllegal407F (b : Byte) (s : State) : Host.Outcome State Fault Refusal := .next (serialByte b s)

/-- `OP_ILLEGAL_80_FF`: UnsupportedOpcode in `OPCODE` (60_exceptions.md rule R242). -/
def execOpIllegal80FF (b : Byte) (s : State) : Host.Outcome State Fault Refusal := .next (serialByte b s)

end Sys2Proof.Machine
end

