-- ==== Sys2Proof/Machine/RegisterFile.lean ====
section
/-! DEFINITION. The register file (spec/43_register_file.md): four independent 8-bit cells. An access works the same in every
state, `FAULT` and a state register that names no state included (rule R210, spec/60_exceptions.md rule R246). No cell feeds
any sequencer (rule R220). -/

namespace Sys2Proof.Machine

/-- `RD_CELL07` (43_register_file.md rule R211). -/
def execRdCell07 (s : State) : Host.Outcome State Fault Refusal := .next (s.reply (some s.cell07))

/-- `WR_CELL07` (43_register_file.md rule R212). -/
def execWrCell07 (b : Byte) (s : State) : Host.Outcome State Fault Refusal := .next ((s.setCell07 b).reply none)

/-- `RD_CELL10` (43_register_file.md rule R213): the stored byte is not written. -/
def execRdCell10 (s : State) : Host.Outcome State Fault Refusal := .next (s.reply (some (withNoErrorBit s.cell10)))

/-- `WR_CELL10` (43_register_file.md rule R214): all 8 bits, bit 0 included. -/
def execWrCell10 (b : Byte) (s : State) : Host.Outcome State Fault Refusal := .next ((s.setCell10 b).reply none)

/-- `RD_CELL11` (43_register_file.md rule R215). -/
def execRdCell11 (s : State) : Host.Outcome State Fault Refusal := .next (s.reply (some s.cell11))

/-- `WR_CELL11` (43_register_file.md rule R216). -/
def execWrCell11 (b : Byte) (s : State) : Host.Outcome State Fault Refusal := .next ((s.setCell11 b).reply none)

/-- `RD_CELL14` (43_register_file.md rule R217). -/
def execRdCell14 (s : State) : Host.Outcome State Fault Refusal := .next (s.reply (some s.cell14))

/-- `WR_CELL14` (43_register_file.md rule R218). -/
def execWrCell14 (b : Byte) (s : State) : Host.Outcome State Fault Refusal := .next ((s.setCell14 b).reply none)

end Sys2Proof.Machine
end

