-- ==== Sys2Proof/Machine/TagLink.lean ====
section
/-! DEFINITION. The entry to the tag/link leg (spec/42_tag_link.md rules R180, R181). The tag phase and the link reads are
phases of other ports: Machine/PokePeek.lean. -/

namespace Sys2Proof.Machine

/-- `RD_LINKARM` in a state the pre-checks let through (42_tag_link.md rules R180, R181): accepted in `IDLE` and `LINK`. -/
def linkArmRule (p : ProtocolState) (s : State) : State :=
  match p with
  | .idle => ((s.setCursor none 0).goto (.tagT 0)).reply (some Params.defaultRead)
  | .link => ((s.setCursor none 0).goto (.tagT 0)).reply (some Params.defaultRead)
  | .opcode => noMatchRead s
  | .pokeA _ => noMatchRead s
  | .pokeV _ => noMatchRead s
  | .peekA _ => noMatchRead s
  | .peekD _ => noMatchRead s
  | .tagT _ => noMatchRead s
  | .fault => noMatchRead s

/-- `RD_LINKARM`, Read(0x03) (42_tag_link.md rule R180). -/
def execRdLinkarm (s : State) : Host.Outcome State Fault Refusal :=
  .next (ppAccess (some Params.defaultRead) linkArmRule s)

end Sys2Proof.Machine
end

