-- ==== Sys2Proof/Machine/Dispatch.lean ====
section
/-! DEFINITION. The dispatch: one arm for each instruction, one direct call of its meaning. -/

namespace Sys2Proof.Machine

/-- The effect of one access (or of the access that carries an opcode byte) on the state. -/
def exec (i : Instr) (s : State) : Host.Outcome State Fault Refusal :=
  match i with
  | .rdData => Sys2Proof.Machine.execRdData s
  | .rdNoport01 => Sys2Proof.Machine.execRdNoport01 s
  | .rdSkip => Sys2Proof.Machine.execRdSkip s
  | .rdLinkarm => Sys2Proof.Machine.execRdLinkarm s
  | .rdUnmapped04 => Sys2Proof.Machine.execRdUnmapped04 s
  | .rdUnmapped05 => Sys2Proof.Machine.execRdUnmapped05 s
  | .rdUnmapped06 => Sys2Proof.Machine.execRdUnmapped06 s
  | .rdCell07 => Sys2Proof.Machine.execRdCell07 s
  | .rdUnmapped08 => Sys2Proof.Machine.execRdUnmapped08 s
  | .rdUnmapped09 => Sys2Proof.Machine.execRdUnmapped09 s
  | .rdUnmapped0A => Sys2Proof.Machine.execRdUnmapped0A s
  | .rdUnmapped0B => Sys2Proof.Machine.execRdUnmapped0B s
  | .rdUnmapped0C => Sys2Proof.Machine.execRdUnmapped0C s
  | .rdUnmapped0D => Sys2Proof.Machine.execRdUnmapped0D s
  | .rdUnmapped0E => Sys2Proof.Machine.execRdUnmapped0E s
  | .rdUnmapped0F => Sys2Proof.Machine.execRdUnmapped0F s
  | .rdCell10 => Sys2Proof.Machine.execRdCell10 s
  | .rdCell11 => Sys2Proof.Machine.execRdCell11 s
  | .rdUnmapped12 => Sys2Proof.Machine.execRdUnmapped12 s
  | .rdUnmapped13 => Sys2Proof.Machine.execRdUnmapped13 s
  | .rdCell14 => Sys2Proof.Machine.execRdCell14 s
  | .rdUnmapped15 => Sys2Proof.Machine.execRdUnmapped15 s
  | .rdUnmapped16 => Sys2Proof.Machine.execRdUnmapped16 s
  | .rdUnmapped17 => Sys2Proof.Machine.execRdUnmapped17 s
  | .rdUnmapped18 => Sys2Proof.Machine.execRdUnmapped18 s
  | .rdUnmapped19 => Sys2Proof.Machine.execRdUnmapped19 s
  | .rdUnmapped1A => Sys2Proof.Machine.execRdUnmapped1A s
  | .rdUnmapped1B => Sys2Proof.Machine.execRdUnmapped1B s
  | .rdUnmapped1C => Sys2Proof.Machine.execRdUnmapped1C s
  | .rdUnmapped1D => Sys2Proof.Machine.execRdUnmapped1D s
  | .rdUnmapped1E => Sys2Proof.Machine.execRdUnmapped1E s
  | .rdUnmapped1F => Sys2Proof.Machine.execRdUnmapped1F s
  | .wrNoport00 b => Sys2Proof.Machine.execWrNoport00 b s
  | .wrSerial b => Sys2Proof.Machine.execWrSerial b s
  | .wrNoport02 b => Sys2Proof.Machine.execWrNoport02 b s
  | .wrTrigger b => Sys2Proof.Machine.execWrTrigger b s
  | .wrUnmapped04 b => Sys2Proof.Machine.execWrUnmapped04 b s
  | .wrUnmapped05 b => Sys2Proof.Machine.execWrUnmapped05 b s
  | .wrUnmapped06 b => Sys2Proof.Machine.execWrUnmapped06 b s
  | .wrCell07 b => Sys2Proof.Machine.execWrCell07 b s
  | .wrUnmapped08 b => Sys2Proof.Machine.execWrUnmapped08 b s
  | .wrUnmapped09 b => Sys2Proof.Machine.execWrUnmapped09 b s
  | .wrUnmapped0A b => Sys2Proof.Machine.execWrUnmapped0A b s
  | .wrUnmapped0B b => Sys2Proof.Machine.execWrUnmapped0B b s
  | .wrUnmapped0C b => Sys2Proof.Machine.execWrUnmapped0C b s
  | .wrUnmapped0D b => Sys2Proof.Machine.execWrUnmapped0D b s
  | .wrUnmapped0E b => Sys2Proof.Machine.execWrUnmapped0E b s
  | .wrUnmapped0F b => Sys2Proof.Machine.execWrUnmapped0F b s
  | .wrCell10 b => Sys2Proof.Machine.execWrCell10 b s
  | .wrCell11 b => Sys2Proof.Machine.execWrCell11 b s
  | .wrUnmapped12 b => Sys2Proof.Machine.execWrUnmapped12 b s
  | .wrUnmapped13 b => Sys2Proof.Machine.execWrUnmapped13 b s
  | .wrCell14 b => Sys2Proof.Machine.execWrCell14 b s
  | .wrUnmapped15 b => Sys2Proof.Machine.execWrUnmapped15 b s
  | .wrUnmapped16 b => Sys2Proof.Machine.execWrUnmapped16 b s
  | .wrUnmapped17 b => Sys2Proof.Machine.execWrUnmapped17 b s
  | .wrUnmapped18 b => Sys2Proof.Machine.execWrUnmapped18 b s
  | .wrUnmapped19 b => Sys2Proof.Machine.execWrUnmapped19 b s
  | .wrUnmapped1A b => Sys2Proof.Machine.execWrUnmapped1A b s
  | .wrUnmapped1B b => Sys2Proof.Machine.execWrUnmapped1B b s
  | .wrUnmapped1C b => Sys2Proof.Machine.execWrUnmapped1C b s
  | .wrUnmapped1D b => Sys2Proof.Machine.execWrUnmapped1D b s
  | .wrUnmapped1E b => Sys2Proof.Machine.execWrUnmapped1E b s
  | .wrUnmapped1F b => Sys2Proof.Machine.execWrUnmapped1F b s
  | .opPoke => Sys2Proof.Machine.execOpPoke s
  | .opPeek => Sys2Proof.Machine.execOpPeek s
  | .opIllegal0203 b => Sys2Proof.Machine.execOpIllegal0203 b s
  | .opIllegal0407 b => Sys2Proof.Machine.execOpIllegal0407 b s
  | .opIllegal080F b => Sys2Proof.Machine.execOpIllegal080F b s
  | .opIllegal101F b => Sys2Proof.Machine.execOpIllegal101F b s
  | .opIllegal203F b => Sys2Proof.Machine.execOpIllegal203F b s
  | .opIllegal407F b => Sys2Proof.Machine.execOpIllegal407F b s
  | .opIllegal80FF b => Sys2Proof.Machine.execOpIllegal80FF b s

end Sys2Proof.Machine
end

