-- ==== Sys2Proof/Machine/Step.lean ====
section
/-! DEFINITION. One step: the block serves the oldest event the host has issued (spec/00_scope.md rule R24,
spec/70_reset_and_hazards.md rules R286, R287), or waits. -/

namespace Sys2Proof.Machine

/-- One event. An access inside the port window runs the instruction its BTW decodes to; outside it, nothing reaches the
block (20_memory.md rule R61). -/
def serve (e : HostEvent) (s : State) : Host.Outcome State Fault Refusal :=
  match e with
  | .read p =>
    match busSelect s.cfg.portBase p with
    | some off => exec (instrAt s (busWord false off 0x00)) s
    | none => .next (notReached s)
  | .write p b =>
    match busSelect s.cfg.portBase p with
    | some off => exec (instrAt s (busWord true off b)) s
    | none => .next (notReached s)
  | .readWrite p _ =>
    match busSelect s.cfg.portBase p with
    | some _ => .refused .bothStrobes
    | none => .next (notReached s)
  | .reset => .next (resetBlock s)
  | .restore saved => .next (restoreSnapshot saved s)
  | .powerOn cfg => if cfg.admissible then .next (powerOnWith cfg s) else .refused .inadmissibleTable

/-- One step. With nothing issued the block waits for a host access (70_reset_and_hazards.md rule R284; log 2). -/
def step (s : State) : Host.Outcome State Fault Refusal :=
  match s.pending with
  | [] => .next (notReached s)
  | e :: es => serve e (s.setPending es)

/-- `s` with the instruction of bits `w` issued as the very next event: a BTW as an access at its offset; an opcode byte as
`Write(0x01, w)` with the state register in `OPCODE`, the one state in which the byte is an opcode byte (log 1, log 10). -/
def State.withFetchWord (s : State) (nbits w : Nat) : State :=
  if nbits ≤ 8 then
    { s with
      state := .named .opcode
      pending := .write (s.cfg.portBase + 0x01) (BitVec.ofNat 8 w) :: s.pending }
  else
    s.setPending (eventOfBtw s.cfg.portBase (BitVec.ofNat 14 w) :: s.pending)

end Sys2Proof.Machine
end

