-- ==== Sys2Proof/Machine/RuleTable.lean ====
section
/-! DEFINITION. The PP-FSM as its source writes it: a table of rules, first match wins (spec/40_framing.md rule R121). The
rows are T1-T21 of rule R131, each row with an index k written once for k = 0..2; T22 is the case where no row matches
(rule R123). `exec` does not use this table: the family files follow the rules that are normative (rule R131). -/

namespace Sys2Proof.Machine

/-- The condition column of 40_framing.md rule R131. -/
inductive ByteClass where
  | any
  | exactly (b : Byte)
  /-- `b ≥ 0x02`. -/
  | illegal
deriving DecidableEq, Repr

/-- The effect column of 40_framing.md rule R131. -/
inductive Effect where
  | nothing
  | dropCursor
  | unsupported
  | addrLane (k : Lane)
  | addrLaneFetch
  | valLane (k : Lane)
  | valLaneStore
  | tagLane (k : Lane)
  | tagLaneLookup
  | advanceCursor
deriving DecidableEq, Repr

/-- The out column of 40_framing.md rule R131. -/
inductive OutColumn where
  /-- "—": a write. -/
  | dash
  | ff
  | valByte (k : Lane)
  | payloadByte
deriving DecidableEq, Repr

/-- A row of 40_framing.md rule R131. -/
structure Rule where
  pre : ProtocolState
  isWrite : Bool
  off : BitVec 5
  cond : ByteClass
  post : ProtocolState
  effect : Effect
  out : OutColumn
deriving DecidableEq, Repr

/-- The lanes a row with an index `k`, `k + 1` stands for. -/
def rowLanes : List Lane := [0, 1, 2]

/-- The rows, in scan order (40_framing.md rule R131). -/
def ruleTable : List Rule :=
  [⟨.idle, true, 0x03, .any, .opcode, .dropCursor, .dash⟩,                                   -- T1
   ⟨.link, true, 0x03, .any, .opcode, .dropCursor, .dash⟩,                                   -- T2
   ⟨.idle, false, 0x03, .any, .tagT 0, .dropCursor, .ff⟩,                                    -- T3
   ⟨.link, false, 0x03, .any, .tagT 0, .dropCursor, .ff⟩,                                    -- T4
   ⟨.opcode, true, 0x01, .exactly 0x00, .pokeA 0, .nothing, .dash⟩,                          -- T5
   ⟨.opcode, true, 0x01, .exactly 0x01, .peekA 0, .nothing, .dash⟩,                          -- T6
   ⟨.opcode, true, 0x01, .illegal, .fault, .unsupported, .dash⟩]                             -- T7
  ++ rowLanes.map (fun k => ⟨.pokeA k, true, 0x01, .any, .pokeA (k + 1), .addrLane k, .dash⟩) -- T8
  ++ [⟨.pokeA 3, true, 0x01, .any, .pokeV 0, .addrLane 3, .dash⟩]                            -- T9
  ++ rowLanes.map (fun k => ⟨.pokeV k, true, 0x01, .any, .pokeV (k + 1), .valLane k, .dash⟩)  -- T10
  ++ [⟨.pokeV 3, true, 0x01, .any, .idle, .valLaneStore, .dash⟩]                             -- T11
  ++ rowLanes.map (fun k => ⟨.peekA k, true, 0x01, .any, .peekA (k + 1), .addrLane k, .dash⟩) -- T12
  ++ [⟨.peekA 3, true, 0x01, .any, .peekD 0, .addrLaneFetch, .dash⟩]                         -- T13
  ++ rowLanes.map (fun k => ⟨.peekD k, false, 0x00, .any, .peekD (k + 1), .nothing, .valByte k⟩) -- T14
  ++ [⟨.peekD 3, false, 0x00, .any, .idle, .nothing, .valByte 3⟩]                            -- T15
  ++ rowLanes.map (fun k => ⟨.peekD k, false, 0x02, .any, .peekD (k + 1), .nothing, .ff⟩)     -- T16
  ++ [⟨.peekD 3, false, 0x02, .any, .idle, .nothing, .ff⟩]                                   -- T17
  ++ rowLanes.map (fun k => ⟨.tagT k, true, 0x01, .any, .tagT (k + 1), .tagLane k, .dash⟩)    -- T18
  ++ [⟨.tagT 3, true, 0x01, .any, .link, .tagLaneLookup, .dash⟩,                             -- T19
      ⟨.link, false, 0x00, .any, .link, .advanceCursor, .payloadByte⟩,                       -- T20
      ⟨.link, false, 0x02, .any, .link, .advanceCursor, .ff⟩]                                -- T21

/-- Does the byte satisfy the condition? -/
def ByteClass.holds : ByteClass → Byte → Bool
  | .any, _ => true
  | .exactly c, b => b == c
  | .illegal, b => decide (0x02 ≤ b)

/-- Does the row match the access (`b` is the data byte of a write) in state `p`? -/
def Rule.fires (r : Rule) (p : ProtocolState) (isWrite : Bool) (off : BitVec 5) (b : Byte) : Bool :=
  r.pre == p && r.isWrite == isWrite && r.off == off && r.cond.holds b

/-- The effect column on the state; `b` is the data byte. -/
def Effect.apply (e : Effect) (b : Byte) (s : State) : State :=
  match e with
  | .nothing => s
  | .dropCursor => s.setCursor none 0
  | .unsupported => s.setFault 0x01 b
  | .addrLane k => s.setAddr (setByte s.addr k b)
  | .addrLaneFetch =>
    let s := s.setAddr (setByte s.addr 3 b)
    s.setVal (memRead s s.addr)
  | .valLane k => s.setVal (setByte s.val k b)
  | .valLaneStore =>
    let s := s.setVal (setByte s.val 3 b)
    memWrite s s.addr s.val
  | .tagLane k => s.setTag (setByte s.tag k b)
  | .tagLaneLookup =>
    let s := s.setTag (setByte s.tag 3 b)
    s.setCursor (lookup s.cfg s.tag) 0
  | .advanceCursor => advance s

/-- The out column, computed from the state before the access. -/
def OutColumn.byte (o : OutColumn) (s : State) : Option Byte :=
  match o with
  | .dash => none
  | .ff => some 0xFF
  | .valByte k => some (byteLane s.val k)
  | .payloadByte => some (readAt s.cfg s.linkEnt s.linkOff)

/-- The diagnostic event of a row: T7 emits one. -/
def Rule.event (r : Rule) (b : Byte) : Option DiagEvent :=
  match r.effect with
  | .unsupported => some ⟨0x01, b⟩
  | _ => none

/-- What a row does. -/
def Rule.apply (r : Rule) (b : Byte) (s : State) : State :=
  { (r.effect.apply b s).goto r.post with rdata := r.out.byte s, diag := r.event b }

/-- The row that matches, scanning in document order (40_framing.md rule R121). -/
def matchingRow (p : ProtocolState) (isWrite : Bool) (off : BitVec 5) (b : Byte) : Option Rule :=
  ruleTable.find? fun r => r.fires p isWrite off b

/-- The access by the table: the first matching row, or T22. -/
def scanTable (p : ProtocolState) (isWrite : Bool) (off : BitVec 5) (b : Byte) (s : State) : State :=
  match matchingRow p isWrite off b with
  | some r => r.apply b s
  | none => s.reply (if isWrite then none else some 0xFF)

end Sys2Proof.Machine
end

