-- ==== Sys2Proof/Safety.lean ====
section
/-! DEFINITION. The terms claims use: runs and what they return to the host, the parts of the state, which accesses reach the
PP-FSM, and the invariants the spec gives. -/

namespace Sys2Proof.Machine

/-! ### Runs -/

/-- The bytes the next `n` steps return to the host, in order; a step that returns no byte adds none. -/
def returned : Nat → State → List Byte
  | 0, _ => []
  | n + 1, s =>
    match step s with
    | .next t => t.rdata.toList ++ returned n t
    | .fault _ => []
    | .refused _ => []

/-- A list of instructions, one after the other, stopping at the first stop. -/
def execAll : List Instr → State → Host.Outcome State Fault Refusal
  | [], s => .next s
  | i :: is, s =>
    match exec i s with
    | .next t => execAll is t
    | .fault r => .fault r
    | .refused r => .refused r

/-! ### Which accesses are which -/

/-- The access kinds that reach the PP-FSM (40_framing.md rule R120 step 4), opcode bytes among them. -/
def reachesFsm : Instr → Bool
  | .rdData => true
  | .rdSkip => true
  | .rdLinkarm => true
  | .wrSerial _ => true
  | .wrTrigger _ => true
  | i =>
    match encoding i with
    | .opByte _ => true
    | .read _ => false
    | .write _ _ => false

/-- The register-cell kinds (40_framing.md rule R120 step 2). -/
def accessesCell : Instr → Bool
  | .rdCell07 => true
  | .wrCell07 _ => true
  | .rdCell10 => true
  | .wrCell10 _ => true
  | .rdCell11 => true
  | .wrCell11 _ => true
  | .rdCell14 => true
  | .wrCell14 _ => true
  | _ => false

/-- The no-op kinds: wrong direction and unmapped (40_framing.md rules R128, R129). -/
def isNoOp (i : Instr) : Bool := !reachesFsm i && !accessesCell i

/-! ### Parts of the state -/

/-- The register file's stored bytes. -/
def State.cells (s : State) : Byte × Byte × Byte × Byte := (s.cell07, s.cell10, s.cell11, s.cell14)

/-- `s` with the register file, the outputs and the events still to be served taken out: what the PP-FSM and its data path
hold. -/
def State.fsmPart (s : State) : State :=
  { s with cell07 := 0, cell10 := 0, cell11 := 0, cell14 := 0, rdata := none, diag := none, pending := [] }

/-- `s` with the outputs and the events still to be served taken out: everything the block itself holds. -/
def State.blockPart (s : State) : State := { s with rdata := none, diag := none, pending := [] }

/-- The next state register after `state` while an operation is in flight, and nothing else matches (40_framing.md rule
R132): none where the state belongs to no operation or has more than one successor. -/
def nextPhase : ProtocolState → Option ProtocolState
  | .pokeA k => some (match nextLane k with | some j => .pokeA j | none => .pokeV 0)
  | .pokeV k => some (match nextLane k with | some j => .pokeV j | none => .idle)
  | .peekA k => some (match nextLane k with | some j => .peekA j | none => .peekD 0)
  | .peekD k => some (afterPeekByte k)
  | .tagT k => some (match nextLane k with | some j => .tagT j | none => .link)
  | .idle => none
  | .opcode => none
  | .link => none
  | .fault => none

/-! ### Invariants -/

/-- The cursor's two conditions (10_state.md rule R40). -/
def State.cursorInTable (s : State) : Prop :=
  match s.linkEnt with
  | none => s.linkOff = 0
  | some i => ∃ e, s.cfg.tagTable[i]? = some e ∧ s.linkOff ≤ e.payload.length

/-- Outside `LINK` the cursor is (None, 0) (42_tag_link.md rule R191). -/
def State.cursorOnlyInLink (s : State) : Prop :=
  s.state ≠ .named .link → s.linkEnt = none ∧ s.linkOff = 0

/-- `FAULT_CODE` and `FAULT_INFO` (60_exceptions.md rule R241): no fault and both 0x00, or UnsupportedOpcode and an illegal
opcode byte, or ProtocolViolation and a code that names no state; and a fault is recorded exactly in `FAULT`. -/
def State.faultRecorded (s : State) : Prop :=
  (s.state ≠ .named .fault ∧ s.faultCode = 0x00 ∧ s.faultInfo = 0x00)
    ∨ (s.state = .named .fault ∧ s.faultCode = 0x01 ∧ 0x02 ≤ s.faultInfo)
    ∨ (s.state = .named .fault ∧ s.faultCode = 0x02 ∧ 0x18 ≤ s.faultInfo ∧ s.faultInfo ≤ 0x1F)

/-- While data bytes of a PEEK are pending, the latch equals the memory word (41_poke_peek.md rule R152). -/
def State.latchFresh (s : State) : Prop :=
  ∀ k, s.state = .named (.peekD k) → s.val = memRead s s.addr

/-- A diagnostic event shows the diagnostic registers, in `FAULT` (60_exceptions.md rule R248). -/
def State.eventShown (s : State) : Prop :=
  ∀ d, s.diag = some d → s.state = .named .fault ∧ d = ⟨s.faultCode, s.faultInfo⟩

/-- The invariant of the block in every reachable state. -/
structure State.Inv (s : State) : Prop where
  /-- The state register names a state (60_exceptions.md rule R243). -/
  named : ∃ p, s.state = .named p
  memory : Memory.wf s.mem = true
  table : s.cfg.admissible = true
  cursor : s.cursorInTable
  quiet : s.cursorOnlyInLink
  recorded : s.faultRecorded
  unsupportedOnly : s.faultCode ≠ 0x02
  latch : s.latchFresh
  event : s.eventShown

end Sys2Proof.Machine
end

