-- ==== Sys2Proof/Certificates/Slice0/Obligations.lean ====
section
/-! DEFINITION. The statements for the provers, from the numbered rules of spec/. Where a rule carries the spec's own mark
`[decision: ...]` or `[derived: ...]`, the docstring says so and the statement's basis is "derived". -/

open Sys2Proof Sys2Proof.Machine

/-! ### Encoding -/

/-- Decode and encode agree, for every well-formed instruction and every operand (30_encoding.md, sections 1 and 3). The
byte layout of a BTW is the model's (log 11). -/
def Obligations.DecodeOfEncodeIsTheInstruction : Prop :=
  ∀ i : Instr, i.wellFormed = true → decode (encode i) = .ok i

/-- Every BTW is made of its three fields and decodes to the one row of its `W` and `OFF`; `DATA` does not enter the decode
but as a write's operand (30_encoding.md, sections 1 and 3; the layout is the spec's decision D26). -/
def Obligations.EveryBusWordDecodesToItsRow : Prop :=
  ∀ w : BitVec 14,
    busWord (btwIsWrite w) (btwOffset w) (btwData w) = w
    ∧ (decodeBtw w).wellFormed = true
    ∧ encoding (decodeBtw w)
        = (if btwIsWrite w then .write (btwOffset w) (btwData w) else .read (btwOffset w))
    ∧ ∀ i : Instr, encoding i = encoding (decodeBtw w) → i = decodeBtw w

/-- Every byte is exactly one opcode-byte row: `OP_POKE` is 0x00, `OP_PEEK` is 0x01, and each of the others is one of the
seven illegal rows (30_encoding.md, sections 1 and 3; the count of rows is marked derived). -/
def Obligations.EveryOpcodeByteDecodesToItsRow : Prop :=
  ∀ b : Byte,
    (decodeOpByte b).wellFormed = true
    ∧ encoding (decodeOpByte b) = .opByte b
    ∧ (∀ i : Instr, i.wellFormed = true → encoding i = .opByte b → i = decodeOpByte b)
    ∧ (decodeOpByte b = .opPoke ↔ b = 0x00)
    ∧ (decodeOpByte b = .opPeek ↔ b = 0x01)

/-- The decoder accepts one byte, or two bytes whose bits 15:14 are zero, and refuses every other string of bytes. The
layout in bytes is the model's choice (log 11). -/
def Obligations.DecoderAcceptsExactlyTwoFormats : Prop :=
  ∀ bytes : List Byte,
    (∃ i, decode bytes = .ok i)
      ↔ (∃ b, bytes = [b]) ∨ ∃ lo hi : Byte, bytes = [lo, hi] ∧ hi < 0x40

/-- Words written out from the spec: the three examples of 30_encoding.md, section 1, one word of each other family, and two
opcode bytes (section 3). Each word is laid out in bytes, DATA first, and an opcode byte in one byte, which is the model's
choice (log 11). -/
def Obligations.WordsOfTheSpecDecode : Prop :=
  decode [0x78, 0x21] = .ok (.wrSerial 0x78)
  ∧ decode [0x00, 0x00] = .ok .rdData
  ∧ decode [0x80, 0x30] = .ok (.wrCell10 0x80)
  ∧ decode [0xA5, 0x23] = .ok (.wrTrigger 0xA5)
  ∧ decode [0x00, 0x03] = .ok .rdLinkarm
  ∧ decode [0x00, 0x05] = .ok .rdUnmapped05
  ∧ decode [0x12, 0x20] = .ok (.wrNoport00 0x12)
  ∧ decode [0x01] = .ok .opPeek
  ∧ decode [0x07] = .ok (.opIllegal0407 0x07)

/-! ### The step -/

/-- A step runs the instruction the decoder reads: from the data byte alone where an opcode byte is awaited and `WR_SERIAL`
carries it (30_encoding.md, section 1), and from the access's BTW otherwise. The event has then been taken from the list of
issued events, and nothing else changes around `exec`. The list of events is the model's (log 1). -/
def Obligations.StepRunsTheDecodedInstruction : Prop :=
  ∀ (s : State) (es : List HostEvent) (off : BitVec 5) (b : Byte) (i : Instr), i.wellFormed = true →
    (s.pending = .write (s.cfg.portBase + off.toNat) b :: es →
      decode (if s.state = .named .opcode ∧ off = 0x01 then encodingBytes (.opByte b)
        else encodingBytes (.write off b)) = .ok i →
      step s = exec i (s.setPending es))
    ∧ (s.pending = .read (s.cfg.portBase + off.toNat) :: es →
      decode (encodingBytes (.read off)) = .ok i →
      step s = exec i (s.setPending es))

/-- An opcode byte's meaning is that of the access that carries it, in every state (30_encoding.md, section 3; log 10): each
of the nine opcode-byte rows does what `WR_SERIAL` with its byte does, in `OPCODE` and outside it, and what `step` runs after
the second-level decode is what the access kind does. -/
def Obligations.SecondLevelDecodeAgreesWithTheAccess : Prop :=
  (∀ (s : State) (i : Instr) (b : Byte), encoding i = .opByte b → exec i s = exec (.wrSerial b) s)
  ∧ ∀ (s : State) (w : BitVec 14), exec (instrAt s w) s = exec (decodeBtw w) s

/-- An access outside the port window does not reach the block (20_memory.md, section 1; the window size is the spec's
decision D2), and with nothing issued the block waits (log 2). -/
def Obligations.AccessOutsideTheWindowChangesNothing : Prop :=
  ∀ (s : State) (es : List HostEvent) (p : Nat) (b : Byte) (e : HostEvent),
    (s.pending = [] → step s = .next { s with rdata := none, diag := none })
    ∧ (p < s.cfg.portBase ∨ s.cfg.portBase + 0x20 ≤ p →
        e = .read p ∨ e = .write p b ∨ e = .readWrite p b →
        s.pending = e :: es →
        step s = .next { s with pending := es, rdata := none, diag := none })

/-- `Step` is total: every step answers a next state, but for the two inputs the spec has no step for, an activation with
both strobes (30_encoding.md, section 1; the signals are the spec's decision D26) and a table that breaks 20_memory.md's
invariants; it never stops with a fault. -/
def Obligations.StepStopsOnlyOutsideTheContract : Prop :=
  ∀ s : State,
    (∃ t, step s = .next t)
    ∨ (∃ p b es off, s.pending = .readWrite p b :: es ∧ busSelect s.cfg.portBase p = some off
        ∧ step s = .refused .bothStrobes)
    ∨ ∃ c es, s.pending = .powerOn c :: es ∧ c.admissible = false ∧ step s = .refused .inadmissibleTable

/-- The configuration-time check (20_memory.md rule R82): a table with no tag twice and without the sentinel's tag is given
a run, and every other table is refused. -/
def Obligations.InadmissibleTableIsRefused : Prop :=
  ∀ (s : State) (es : List HostEvent) (c : Setup), s.pending = .powerOn c :: es →
    let distinct := ∀ (i j : Nat) (d e : TagEntry), i ≠ j → c.tagTable[i]? = some d → c.tagTable[j]? = some e → d.tag ≠ e.tag
    let noSentinel := ∀ (i : Nat) (e : TagEntry), c.tagTable[i]? = some e → e.tag ≠ c.tagSentinel
    (distinct ∧ noSentinel → ∃ t, step s = .next t ∧ t.cfg = c)
    ∧ (¬(distinct ∧ noSentinel) → step s = .refused .inadmissibleTable)

/-- No event but a power-on changes the configuration, the tag/link table among it (10_state.md, section 5; 20_memory.md,
section 6). -/
def Obligations.OnlyPowerOnChangesTheConfiguration : Prop :=
  ∀ s t : State, step s = .next t →
    t.cfg = s.cfg ∨ ∃ c es, s.pending = .powerOn c :: es ∧ t.cfg = c

/-! ### No-op accesses and the register file -/

/-- The no-op kinds (40_framing.md, section 6; the spec's decisions D2 and D30): `WR_NOPORT00`, `RD_NOPORT01`, `WR_NOPORT02`
and the 48 `RD_UNMAPPED_xx` and `WR_UNMAPPED_xx` kinds complete in every state, return 0xFF for a read, and change nothing. -/
def Obligations.NoOpAccessesChangeNothing : Prop :=
  ∀ (s : State) (i : Instr), isNoOp i = true →
    exec i s = .next { s with rdata := if returnsByte i then some 0xFF else none, diag := none }

/-- `RD_CELL07`, `RD_CELL11` and `RD_CELL14` (43_register_file.md rules R211, R215, R217): the encoding with any DATA, the byte
returned in every state, nothing written, 0x00 after a reset, and the byte last written. -/
def Obligations.PlainCellReadsReturnTheStoredByte : Prop :=
  ∀ (s t : State) (x b : Byte),
    (decodeBtw (0x0700#14 ||| x.setWidth 14) = .rdCell07
      ∧ exec .rdCell07 s = .next { s with rdata := some s.cell07, diag := none }
      ∧ (resetBlock s).cell07 = 0x00
      ∧ (exec (.wrCell07 b) s = .next t → exec .rdCell07 t = .next { t with rdata := some b, diag := none }))
    ∧ (decodeBtw (0x1100#14 ||| x.setWidth 14) = .rdCell11
      ∧ exec .rdCell11 s = .next { s with rdata := some s.cell11, diag := none }
      ∧ (resetBlock s).cell11 = 0x00
      ∧ (exec (.wrCell11 b) s = .next t → exec .rdCell11 t = .next { t with rdata := some b, diag := none }))
    ∧ (decodeBtw (0x1400#14 ||| x.setWidth 14) = .rdCell14
      ∧ exec .rdCell14 s = .next { s with rdata := some s.cell14, diag := none }
      ∧ (resetBlock s).cell14 = 0x00
      ∧ (exec (.wrCell14 b) s = .next t → exec .rdCell14 t = .next { t with rdata := some b, diag := none }))

/-- `WR_CELL07`, `WR_CELL10`, `WR_CELL11` and `WR_CELL14` (43_register_file.md rules R212, R214, R216, R218): the encoding, the
byte stored whole in every state, nothing else written; and of cell 0x10 the next read returns the byte with bit 0 set. -/
def Obligations.CellWritesStoreTheWholeByte : Prop :=
  ∀ (s t : State) (b : Byte),
    (decodeBtw (0x2700#14 ||| b.setWidth 14) = .wrCell07 b
      ∧ exec (.wrCell07 b) s = .next { s with cell07 := b, rdata := none, diag := none })
    ∧ (decodeBtw (0x3000#14 ||| b.setWidth 14) = .wrCell10 b
      ∧ exec (.wrCell10 b) s = .next { s with cell10 := b, rdata := none, diag := none }
      ∧ (exec (.wrCell10 b) s = .next t → exec .rdCell10 t = .next { t with rdata := some (b ||| 0x01), diag := none }))
    ∧ (decodeBtw (0x3100#14 ||| b.setWidth 14) = .wrCell11 b
      ∧ exec (.wrCell11 b) s = .next { s with cell11 := b, rdata := none, diag := none })
    ∧ (decodeBtw (0x3400#14 ||| b.setWidth 14) = .wrCell14 b
      ∧ exec (.wrCell14 b) s = .next { s with cell14 := b, rdata := none, diag := none })

/-- `RD_CELL10` returns the stored byte with bit 0 set and does not write it (43_register_file.md, section 3; that the read
does not write is the spec's decision D31). -/
def Obligations.StatusCellReadsWithBitZeroSet : Prop :=
  ∀ s : State, exec .rdCell10 s = .next { s with rdata := some (s.cell10 ||| 0x01), diag := none }

/-- No cross-register coupling (43_register_file.md rule R219): after a write to a cell, any accesses that do not write that
cell leave it as written, writes to the other cells among them; and what a read of a cell returns depends on that cell
alone. -/
def Obligations.CellsAreIndependent : Prop :=
  ∀ (is : List Instr) (s s' : State) (b : Byte),
    ((∀ i ∈ is, ∀ c, i ≠ .wrCell07 c) → ∃ t, execAll (.wrCell07 b :: is) s = .next t ∧ t.cell07 = b)
    ∧ ((∀ i ∈ is, ∀ c, i ≠ .wrCell10 c) → ∃ t, execAll (.wrCell10 b :: is) s = .next t ∧ t.cell10 = b)
    ∧ ((∀ i ∈ is, ∀ c, i ≠ .wrCell11 c) → ∃ t, execAll (.wrCell11 b :: is) s = .next t ∧ t.cell11 = b)
    ∧ ((∀ i ∈ is, ∀ c, i ≠ .wrCell14 c) → ∃ t, execAll (.wrCell14 b :: is) s = .next t ∧ t.cell14 = b)
    ∧ (s.cell07 = s'.cell07 → ∃ t t', exec .rdCell07 s = .next t ∧ exec .rdCell07 s' = .next t' ∧ t.rdata = t'.rdata)
    ∧ (s.cell10 = s'.cell10 → ∃ t t', exec .rdCell10 s = .next t ∧ exec .rdCell10 s' = .next t' ∧ t.rdata = t'.rdata)
    ∧ (s.cell11 = s'.cell11 → ∃ t t', exec .rdCell11 s = .next t ∧ exec .rdCell11 s' = .next t' ∧ t.rdata = t'.rdata)
    ∧ (s.cell14 = s'.cell14 → ∃ t t', exec .rdCell14 s = .next t ∧ exec .rdCell14 s' = .next t' ∧ t.rdata = t'.rdata)

/-! ### Framing -/

/-- `WR_TRIGGER` (40_framing.md, section 3; port and states are the spec's decisions D3 and D7): in `IDLE` and `LINK` it arms
the opcode and drops the cursor; in every other named state it changes nothing. Every data byte acts the same. -/
def Obligations.TriggerArmsTheOpcode : Prop :=
  ∀ (s : State) (b : Byte),
    (s.state = .named .idle ∨ s.state = .named .link →
      exec (.wrTrigger b) s
        = .next { s with state := .named .opcode, linkEnt := none, linkOff := 0, rdata := none, diag := none })
    ∧ ∀ p, s.state = .named p → p ≠ .idle → p ≠ .link →
      exec (.wrTrigger b) s = .next { s with rdata := none, diag := none }

/-- `RD_LINKARM` (42_tag_link.md, section 1; the spec's decisions D4, D6 and D7): in `IDLE` and `LINK` it enters the tag phase
and drops the cursor; in every other named state it changes nothing. It returns 0xFF. -/
def Obligations.LinkArmEntersTheTagPhase : Prop :=
  ∀ s : State,
    (s.state = .named .idle ∨ s.state = .named .link →
      exec .rdLinkarm s
        = .next { s with state := .named (.tagT 0), linkEnt := none, linkOff := 0, rdata := some 0xFF, diag := none })
    ∧ ∀ p, s.state = .named p → p ≠ .idle → p ≠ .link →
      exec .rdLinkarm s = .next { s with rdata := some 0xFF, diag := none }

/-- The opcode phase (40_framing.md rule R126, 60_exceptions.md rule R242): 0x00 selects POKE, 0x01 selects PEEK, and every other byte raises
UnsupportedOpcode; the byte is kept in no accumulator, and none is cleared. -/
def Obligations.OpcodeByteSelectsTheOperation : Prop :=
  ∀ (s : State) (b : Byte), s.state = .named .opcode →
    exec (.wrSerial b) s = .next (
      if b = 0x00 then { s with state := .named (.pokeA 0), rdata := none, diag := none }
      else if b = 0x01 then { s with state := .named (.peekA 0), rdata := none, diag := none }
      else { s with state := .named .fault, faultCode := 0x01, faultInfo := b, rdata := none, diag := some ⟨0x01, b⟩ })

/-- The opcode-byte rows in `OPCODE` (40_framing.md, section 4; 60_exceptions.md, section 1; that a row means the access that
carries its byte is log 10): `OP_POKE` and `OP_PEEK` select, and
`OP_ILLEGAL_02_03`, `04_07`, `08_0F`, `10_1F`, `20_3F`, `40_7F` and `80_FF` raise UnsupportedOpcode with the byte as info, and
do nothing else. -/
def Obligations.OpcodeRowsSelectOrFault : Prop :=
  ∀ s : State, s.state = .named .opcode →
    exec .opPoke s = .next { s with state := .named (.pokeA 0), rdata := none, diag := none }
    ∧ exec .opPeek s = .next { s with state := .named (.peekA 0), rdata := none, diag := none }
    ∧ ∀ (i : Instr) (b : Byte), i.wellFormed = true → encoding i = .opByte b → b ≠ 0x00 → b ≠ 0x01 →
      exec i s = .next
        { s with state := .named .fault, faultCode := 0x01, faultInfo := b, rdata := none, diag := some ⟨0x01, b⟩ }

/-- The address phase and the PEEK fetch (40_framing.md rule R127): each byte fills its lane of `ADDR`; the last address byte
of a POKE leads to the value phase, and that of a PEEK latches the word at the completed address in `VAL`. Four lanes
replaced in order leave nothing of the old `ADDR`, and the address 0xFFFFFFFF is legal and out of range. -/
def Obligations.AddressBytesFillAddr : Prop :=
  ∀ (s : State) (b : Byte),
    (∀ (w : Word) (a0 a1 a2 : Byte), setByte (setByte (setByte (setByte w 0 a0) 1 a1) 2 a2) 3 b
      = a0.setWidth 32 ||| (a1.setWidth 32 <<< 8) ||| (a2.setWidth 32 <<< 16) ||| (b.setWidth 32 <<< 24))
    ∧ memRead s 0xFFFFFFFF = 0x55AA55AA
    ∧ (∀ k j : Lane, k.val + 1 = j.val →
      (s.state = .named (.pokeA k) → exec (.wrSerial b) s = .next
        { s with addr := setByte s.addr k b, state := .named (.pokeA j), rdata := none, diag := none })
      ∧ (s.state = .named (.peekA k) → exec (.wrSerial b) s = .next
        { s with addr := setByte s.addr k b, state := .named (.peekA j), rdata := none, diag := none }))
    ∧ (s.state = .named (.pokeA 3) → exec (.wrSerial b) s = .next
        { s with addr := setByte s.addr 3 b, state := .named (.pokeV 0), rdata := none, diag := none })
    ∧ (s.state = .named (.peekA 3) → exec (.wrSerial b) s = .next
        { s with
          addr := setByte s.addr 3 b, val := memRead s (setByte s.addr 3 b), state := .named (.peekD 0)
          rdata := none, diag := none })

/-- The value phase (41_poke_peek.md rule R150): `WR_SERIAL`, BTW 0x2100 | b, fills lane k of `VAL`; the last byte stores the
whole word at `ADDR`, or nothing if `ADDR` is out of range, and ends in `IDLE`. Every word of memory is given. -/
def Obligations.ValueBytesFillValAndStore : Prop :=
  ∀ (s : State) (b : Byte),
    decodeBtw (0x2100#14 ||| b.setWidth 14) = .wrSerial b
    ∧ (∀ k j : Lane, k.val + 1 = j.val → s.state = .named (.pokeV k) → exec (.wrSerial b) s = .next
        { s with val := setByte s.val k b, state := .named (.pokeV j), rdata := none, diag := none })
    ∧ (s.state = .named (.pokeV 3) →
        let m := if 0x80000000 ≤ s.addr.toNat ∧ s.addr.toNat < 0x80200000 then
            Memory.putWord s.mem ((s.addr.toNat - 0x80000000) / 4) (setByte s.val 3 b)
          else s.mem
        exec (.wrSerial b) s = .next
          { s with val := setByte s.val 3 b, mem := m, state := .named .idle, rdata := none, diag := none }
        ∧ ∀ i, memWord (s.setMem m) i
            = if (0x80000000 ≤ s.addr.toNat ∧ s.addr.toNat < 0x80200000) ∧ i = (s.addr.toNat - 0x80000000) / 4 then
                setByte s.val 3 b
              else memWord s i)

/-- The tag phase (42_tag_link.md rule R182): `WR_SERIAL`, BTW 0x2100 | b, fills lane k of `TAG`; the last byte looks the
completed tag up and arms the cursor. Four lanes replaced in order leave nothing of the old `TAG`. -/
def Obligations.TagBytesFillTagAndLookUp : Prop :=
  ∀ (s : State) (b : Byte),
    decodeBtw (0x2100#14 ||| b.setWidth 14) = .wrSerial b
    ∧ (∀ (w : Word) (a0 a1 a2 : Byte), setByte (setByte (setByte (setByte w 0 a0) 1 a1) 2 a2) 3 b
      = a0.setWidth 32 ||| (a1.setWidth 32 <<< 8) ||| (a2.setWidth 32 <<< 16) ||| (b.setWidth 32 <<< 24))
    ∧ (∀ k j : Lane, k.val + 1 = j.val → s.state = .named (.tagT k) → exec (.wrSerial b) s = .next
        { s with tag := setByte s.tag k b, state := .named (.tagT j), rdata := none, diag := none })
    ∧ (s.state = .named (.tagT 3) → exec (.wrSerial b) s = .next
        { s with
          tag := setByte s.tag 3 b, linkEnt := lookup s.cfg (setByte s.tag 3 b), linkOff := 0
          state := .named .link, rdata := none, diag := none })

/-- The PEEK output (41_poke_peek.md rule R153): `RD_DATA` in `PEEK_Dk`, with any DATA bits in its BTW, returns lane k of
`VAL`, moves on, and writes nothing but `state`. -/
def Obligations.PeekOutputReturnsTheLanes : Prop :=
  ∀ (s : State) (x : Byte),
    decodeBtw (0x0000#14 ||| x.setWidth 14) = .rdData
    ∧ (∀ k j : Lane, k.val + 1 = j.val → s.state = .named (.peekD k) → exec .rdData s = .next
        { s with state := .named (.peekD j), rdata := some (byteLane s.val k), diag := none })
    ∧ (s.state = .named (.peekD 3) → exec .rdData s = .next
        { s with state := .named .idle, rdata := some (byteLane s.val 3), diag := none })

/-- The PEEK skip (41_poke_peek.md, section 2; that a skip consumes a lane and returns 0xFF are the spec's decisions D5 and
D6). -/
def Obligations.PeekSkipConsumesALane : Prop :=
  ∀ s : State,
    (∀ k j : Lane, k.val + 1 = j.val → s.state = .named (.peekD k) → exec .rdSkip s = .next
        { s with state := .named (.peekD j), rdata := some 0xFF, diag := none })
    ∧ (s.state = .named (.peekD 3) → exec .rdSkip s = .next
        { s with state := .named .idle, rdata := some 0xFF, diag := none })

/-- The link read (42_tag_link.md rules R184, R185), BTW 0x0000: with no entry it returns 0x5A; with an entry it returns the payload
byte at the cursor and advances, and past the end it returns 0x5A and does not advance. The block stays in `LINK`. -/
def Obligations.LinkReadDrainsThePayload : Prop :=
  decodeBtw 0x0000 = .rdData
  ∧ ∀ s : State, s.state = .named .link →
    (s.linkEnt = none → exec .rdData s = .next { s with rdata := some 0x5A, diag := none })
    ∧ ∀ i e, s.linkEnt = some i → s.cfg.tagTable[i]? = some e →
      (∀ b, e.payload[s.linkOff]? = some b →
        exec .rdData s = .next { s with linkOff := s.linkOff + 1, rdata := some b, diag := none })
      ∧ (e.payload.length ≤ s.linkOff → exec .rdData s = .next { s with rdata := some 0x5A, diag := none })

/-- The link skip (42_tag_link.md, section 3; the spec's decisions D5 and D6): it returns 0xFF and advances the cursor by one
payload byte, but not past the end. -/
def Obligations.LinkSkipAdvancesTheCursor : Prop :=
  ∀ s : State, s.state = .named .link →
    (s.linkEnt = none → exec .rdSkip s = .next { s with rdata := some 0xFF, diag := none })
    ∧ ∀ i e, s.linkEnt = some i → s.cfg.tagTable[i]? = some e →
      exec .rdSkip s = .next
        { s with
          linkOff := if s.linkOff < e.payload.length then s.linkOff + 1 else s.linkOff
          rdata := some 0xFF, diag := none }

/-- An access at offsets 0x00-0x03 that no rule matches changes nothing, and a read of it returns 0xFF (40_framing.md, section
2), in every named state. Which kinds match nothing where: `RD_DATA`, `RD_SKIP` and `WR_SERIAL` (sections 4 and 5; the skip
is the spec's decision D5), the trigger and the link arm (section 3, and 42_tag_link.md, section 1; decisions D3, D4 and
D7), through the rule table, which is marked derived (40_framing.md, section 7); every one of them in `FAULT` (60_exceptions.md,
section 2; decision D11); and the wrong-direction kinds (40_framing.md, section 6; decision D30). -/
def Obligations.UnmatchedAccessesChangeNothing : Prop :=
  ∀ (s : State) (p : ProtocolState) (b : Byte), s.state = .named p →
    ((∀ k, p ≠ .peekD k) → p ≠ .link →
      exec .rdData s = .next { s with rdata := some 0xFF, diag := none }
      ∧ exec .rdSkip s = .next { s with rdata := some 0xFF, diag := none })
    ∧ (p ≠ .idle → p ≠ .link →
      exec .rdLinkarm s = .next { s with rdata := some 0xFF, diag := none }
      ∧ exec (.wrTrigger b) s = .next { s with rdata := none, diag := none })
    ∧ (p = .idle ∨ (∃ k, p = .peekD k) ∨ p = .link ∨ p = .fault →
      exec (.wrSerial b) s = .next { s with rdata := none, diag := none })
    ∧ exec (.wrNoport00 b) s = .next { s with rdata := none, diag := none }
    ∧ exec .rdNoport01 s = .next { s with rdata := some 0xFF, diag := none }
    ∧ exec (.wrNoport02 b) s = .next { s with rdata := none, diag := none }

/-- The PP-FSM is its rule table: in every named state, every access at offsets 0x00-0x03 does what the first matching row of
40_framing.md's table T1-T22 says (sections 1 and 7; the table is marked derived). -/
def Obligations.FsmRefinesTheRuleTable : Prop :=
  ∀ (s : State) (p : ProtocolState) (w : BitVec 14), s.state = .named p → btwOffset w < 0x04 →
    exec (decodeBtw w) s = .next (scanTable p (btwIsWrite w) (btwOffset w) (btwData w) s)

/-- No two rows of the rule table match the same access in the same state, so scan order never decides an outcome
(40_framing.md, section 7; marked derived). -/
def Obligations.RuleTableRowsNeverOverlap : Prop :=
  ∀ (p : ProtocolState) (isWrite : Bool) (off : BitVec 5) (b : Byte) (q r : Rule),
    q ∈ ruleTable → r ∈ ruleTable → q.fires p isWrite off b = true → r.fires p isWrite off b = true → q = r

/-! ### Faults -/

/-- `FAULT` is inert (60_exceptions.md, section 2; the spec's decision D11): every access that reaches the PP-FSM returns 0xFF
if it reads, and changes nothing. -/
def Obligations.FaultStateIsInert : Prop :=
  ∀ (s : State) (i : Instr), s.state = .named .fault → reachesFsm i = true →
    exec i s = .next { s with rdata := if returnsByte i then some 0xFF else none, diag := none }

/-- No access of any kind leaves `FAULT` or changes what is recorded of the first fault; a reset does (60_exceptions.md,
section 4; marked derived). -/
def Obligations.OnlyResetLeavesFault : Prop :=
  ∀ (is : List Instr) (s : State), s.state = .named .fault →
    (∃ t, execAll is s = .next t ∧ t.fsmPart = s.fsmPart)
    ∧ ∀ es, s.pending = .reset :: es → ∃ t, step s = .next t ∧ t.state = .named .idle
        ∧ t.faultCode = 0x00 ∧ t.faultInfo = 0x00 ∧ t.mem = s.mem

/-- A state register that names no state raises ProtocolViolation on every access that reaches the PP-FSM, before anything
else, with the state code as info (60_exceptions.md, sections 1 and 3; the spec's decision D14). -/
def Obligations.IllegalStateCodeRaisesProtocolViolation : Prop :=
  ∀ (s : State) (c : Fin 8) (i : Instr), s.state = .unnamed c → reachesFsm i = true →
    exec i s = .next
      { s with
        state := .named .fault, faultCode := 0x02, faultInfo := 0x18 + BitVec.ofNat 8 c.val
        rdata := if returnsByte i then some 0xFF else none
        diag := some ⟨0x02, 0x18 + BitVec.ofNat 8 c.val⟩ }

/-- No other access or condition raises a fault (60_exceptions.md, section 1): an access emits a diagnostic event exactly
where the state register names no state and the access reaches the PP-FSM, or an illegal opcode byte is written in
`OPCODE`. -/
def Obligations.OnlyTheTwoCausesRaiseAFault : Prop :=
  ∀ (i : Instr) (s t : State), exec i s = .next t →
    (t.diag.isSome = true
      ↔ (reachesFsm i = true ∧ ∃ c, s.state = .unnamed c)
        ∨ (s.state = .named .opcode
            ∧ ∃ b : Byte, 0x02 ≤ b ∧ (encoding i = .write 0x01 b ∨ encoding i = .opByte b)))

/-- A raising access makes no other change: it enters `FAULT`, records its code and info, and emits them; no accumulator,
cursor, cell or word of memory is written (60_exceptions.md, section 2; the spec's decisions D11 and D12). -/
def Obligations.RaisingWritesOnlyTheFaultRegisters : Prop :=
  ∀ (i : Instr) (s t : State) (d : DiagEvent), exec i s = .next t → t.diag = some d →
    t = { s with
      state := .named .fault, faultCode := d.code, faultInfo := d.info
      rdata := if returnsByte i then some 0xFF else none, diag := some d }

/-- The output signals (30_encoding.md, section 1; 60_exceptions.md, section 5; the spec's decision D13): after any access,
where `diag_valid` is 1 the block is `faulted`, and `diag_code` and `diag_info` show the event. -/
def Obligations.SignalsShowTheRaisedFault : Prop :=
  ∀ (i : Instr) (s t : State), exec i s = .next t → t.outputs.diagValid = true →
    t.outputs.faulted = true ∧ t.diag = some ⟨t.outputs.diagCode, t.outputs.diagInfo⟩

/-! ### Reset, power-on, restore -/

/-- The reset event (70_reset_and_hazards.md, section 1; the spec's decisions D12, D16, D17 and D33), from every state and at
any point of an operation: memory and the configuration are kept, and everything else takes its reset value. -/
def Obligations.ResetEventGivesTheResetValues : Prop :=
  ∀ (s : State) (es : List HostEvent), s.pending = .reset :: es →
    step s = .next
      { state := .named .idle, addr := 0, val := 0, tag := 0, linkEnt := none, linkOff := 0
        cell07 := 0x00, cell10 := 0x00, cell11 := 0x00, cell14 := 0x00
        mem := s.mem, memFill := s.memFill, faultCode := 0x00, faultInfo := 0x00
        cfg := s.cfg, rdata := none, diag := none, pending := es }

/-- A snapshot restore is a reset, then the four saved bytes are written into the cells; memory takes a fresh open content
(70_reset_and_hazards.md, section 3; the spec's decision D21; log 13). What a snapshot holds is the stored bytes. -/
def Obligations.RestoreIsResetThenTheSavedCells : Prop :=
  ∀ (s s' : State) (es : List HostEvent), s.pending = .restore s'.snapshot :: es →
    step s = .next
      { state := .named .idle, addr := 0, val := 0, tag := 0, linkEnt := none, linkOff := 0
        cell07 := s'.cell07, cell10 := s'.cell10, cell11 := s'.cell11, cell14 := s'.cell14
        mem := [], memFill := ⟨s.memFill.load + 1, false⟩, faultCode := 0x00, faultInfo := 0x00
        cfg := s.cfg, rdata := none, diag := none, pending := es }

/-- Power-on with an admissible configuration (70_reset_and_hazards.md, section 1, and 10_state.md, section 7; the spec's
decisions D12, D16, D18 and D33): the reset values, and every word of memory holds its open initial content. -/
def Obligations.PowerOnGivesThePowerOnValues : Prop :=
  ∀ (s : State) (es : List HostEvent) (c : Setup), s.pending = .powerOn c :: es → c.admissible = true →
    ∃ t, step s = .next t
      ∧ (∀ a : Word, 0x80000000 ≤ a.toNat → a.toNat < 0x80200000 →
          memRead t a = Config.memInit (s.memFill.load + 1) ((a.toNat - 0x80000000) / 4))
      ∧ t.state = .named .idle ∧ t.addr = 0 ∧ t.val = 0 ∧ t.tag = 0 ∧ t.linkEnt = none ∧ t.linkOff = 0
      ∧ t.cell07 = 0x00 ∧ t.cell10 = 0x00 ∧ t.cell11 = 0x00 ∧ t.cell14 = 0x00
      ∧ t.faultCode = 0x00 ∧ t.faultInfo = 0x00 ∧ t.cfg = c ∧ t.pending = es

/-- The state after the first power-on (10_state.md, section 7; the spec's decisions D12, D16 and D33; the default base of
00_scope.md, section 3). -/
def Obligations.ResetStateHasThePowerOnValues : Prop :=
  let t := State.reset
  t.state = .named .idle ∧ t.addr = 0 ∧ t.val = 0 ∧ t.tag = 0 ∧ t.linkEnt = none ∧ t.linkOff = 0
    ∧ t.cell07 = 0x00 ∧ t.cell10 = 0x00 ∧ t.cell11 = 0x00 ∧ t.cell14 = 0x00
    ∧ t.faultCode = 0x00 ∧ t.faultInfo = 0x00 ∧ t.cfg.portBase = 0x150
    ∧ (∀ i < 0x80000, memWord t i = Config.memInit 0 i)

/-! ### Memory -/

/-- `MemRead` and `MemWrite` (20_memory.md rules R66, R67): in range they read and write the word that contains the address;
out of range a read gives 0x55AA55AA and a write changes nothing at all. -/
def Obligations.MemReadAndMemWrite : Prop :=
  ∀ (s : State) (a v : Word),
    (0x80000000 ≤ a.toNat ∧ a.toNat < 0x80200000 →
      memRead s a = memWord s ((a.toNat - 0x80000000) / 4)
      ∧ (∀ i, memWord (memWrite s a v) i = if i = (a.toNat - 0x80000000) / 4 then v else memWord s i)
      ∧ memWrite s a v = { s with mem := (memWrite s a v).mem })
    ∧ (¬(0x80000000 ≤ a.toNat ∧ a.toNat < 0x80200000) →
      memRead s a = 0x55AA55AA ∧ memWrite s a v = s)

/-- Memory is written only by the access that completes a POKE, and only in the word that contains `ADDR` (10_state.md,
section 5; 41_poke_peek.md, section 1): every other byte of memory reads as before, after every access. -/
def Obligations.OnlyACompletedPokeChangesMemory : Prop :=
  ∀ (i : Instr) (s t : State) (a : Word), exec i s = .next t → memByte t a ≠ memByte s a →
    s.state = .named (.pokeV 3)
    ∧ (∃ b, encoding i = .write 0x01 b ∨ encoding i = .opByte b)
    ∧ 0x80000000 ≤ s.addr.toNat ∧ s.addr.toNat < 0x80200000
    ∧ 0x80000000 ≤ a.toNat ∧ a.toNat < 0x80200000
    ∧ (a.toNat - 0x80000000) / 4 = (s.addr.toNat - 0x80000000) / 4

/-- Four serial bytes assemble an operand, whatever the accumulator held (30_encoding.md rule R95): the address of a POKE and
of a PEEK, the tag, and the value. -/
def Obligations.FourSerialBytesAssembleTheOperand : Prop :=
  ∀ (s : State) (b0 b1 b2 b3 : Byte),
    let w : Word := b0.setWidth 32 ||| (b1.setWidth 32 <<< 8) ||| (b2.setWidth 32 <<< 16) ||| (b3.setWidth 32 <<< 24)
    let four : List Instr := [.wrSerial b0, .wrSerial b1, .wrSerial b2, .wrSerial b3]
    (s.state = .named (.pokeA 0) → ∃ t, execAll four s = .next t ∧ t.addr = w ∧ t.state = .named (.pokeV 0))
    ∧ (s.state = .named (.peekA 0) → ∃ t, execAll four s = .next t ∧ t.addr = w ∧ t.state = .named (.peekD 0))
    ∧ (s.state = .named (.tagT 0) → ∃ t, execAll four s = .next t ∧ t.tag = w ∧ t.state = .named .link)
    ∧ (s.state = .named (.pokeV 0) → ∃ t, execAll four s = .next t ∧ t.val = w ∧ t.state = .named .idle)

/-! ### Invariants -/

/-- Every step, a reset, a restore and a power-on among them, keeps the block's invariant: the state register names a state,
memory is canonical with no word partly written, the table is admissible, the cursor stays in the table and outside `LINK`
is (None, 0), the fault registers agree with `FAULT`, no ProtocolViolation is ever recorded, and while PEEK data is pending
the latch equals the memory word (10_state.md, section 4; 41_poke_peek.md, section 2; 42_tag_link.md, section 4;
60_exceptions.md, section 1; the cursor's conditions are marked derived, the fault codes are the spec's decisions D12 and
D14, and the canonical form of memory is log 5). -/
def Obligations.EveryStepKeepsTheInvariant : Prop :=
  ∀ s t : State, s.Inv → step s = .next t → t.Inv

/-- The invariant holds after the first power-on (10_state.md, section 7; log 4 and log 6 for what is open there). -/
def Obligations.ResetStateHasTheInvariant : Prop :=
  State.reset.Inv

/-- Wherever the invariant holds, `LINK_ENT` is none or an entry number below n, and `LINK_OFF` is at most `MAX_PAYLOAD`
(10_state.md, sections 1 and 4, the latter marked derived; `MAX_PAYLOAD` is the spec's decision D19). -/
def Obligations.CursorStaysInItsRange : Prop :=
  ∀ s : State, s.Inv →
    (∀ i, s.linkEnt = some i → i < s.cfg.tagTable.length) ∧ s.linkOff ≤ s.cfg.maxPayload

/-- Every step keeps memory in its canonical form, from every state whose memory has it, reachable or not. The form is the
model's (log 5); that no word is partly written is 41_poke_peek.md, section 1, marked derived. -/
def Obligations.EveryStepKeepsMemoryCanonical : Prop :=
  ∀ s t : State, Memory.wf s.mem = true → step s = .next t → Memory.wf t.mem = true

/-! ### Lookup and whole operations -/

/-- `Lookup` (42_tag_link.md rule R183): the first entry in table order that has the tag, and none for the sentinel or an
absent tag; in an admissible table the first match is the only one. -/
def Obligations.LookupFindsTheFirstEntry : Prop :=
  ∀ (c : Setup) (t : Word),
    (∀ i, lookup c t = some i
      ↔ t ≠ c.tagSentinel ∧ (∃ e, c.tagTable[i]? = some e ∧ e.tag = t)
        ∧ ∀ (j : Nat) (e : TagEntry), j < i → c.tagTable[j]? = some e → e.tag ≠ t)
    ∧ (lookup c t = none ↔ t = c.tagSentinel ∨ ∀ e ∈ c.tagTable, e.tag ≠ t)
    ∧ (c.admissible = true → ∀ i e, c.tagTable[i]? = some e → e.tag = t → lookup c t = some i)

/-- A whole POKE (41_poke_peek.md, section 3; marked derived), from `IDLE` or `LINK`: the 10 accesses return nothing, end in
`IDLE`, and store the word if the address is in range; the whole end state is given. -/
def Obligations.WholePokeStoresTheWord : Prop :=
  ∀ (s : State) (a v : Word) (es : List HostEvent),
    s.state = .named .idle ∨ s.state = .named .link →
    s.pending = (pokeAccesses a v).map (eventOfBtw s.cfg.portBase) ++ es →
    Host.Core.run Sys2Proof.core 10 s = .next
      { s with
        state := .named .idle, addr := a, val := v, linkEnt := none, linkOff := 0
        mem := (memWrite s a v).mem, rdata := none, diag := none, pending := es }
    ∧ returned 10 s = []

/-- A whole PEEK (41_poke_peek.md, section 3; marked derived), from `IDLE` or `LINK`: the 10 accesses return the four lanes
of `MemRead(a, 4)`, low lane first, and end in `IDLE`; the whole end state is given. -/
def Obligations.WholePeekReturnsTheWord : Prop :=
  ∀ (s : State) (a : Word) (es : List HostEvent),
    s.state = .named .idle ∨ s.state = .named .link →
    s.pending = (peekAccesses a).map (eventOfBtw s.cfg.portBase) ++ es →
    Host.Core.run Sys2Proof.core 10 s = .next
      { s with
        state := .named .idle, addr := a, val := memRead s a, linkEnt := none, linkOff := 0
        rdata := some (byteLane (memRead s a) 3), diag := none, pending := es }
    ∧ returned 10 s = [byteLane (memRead s a) 0, byteLane (memRead s a) 1, byteLane (memRead s a) 2,
        byteLane (memRead s a) 3]

/-- A POKE, then a PEEK of any address of the same word, returns exactly the poked word, low byte first; out of range the
PEEK returns AA 55 AA 55 whatever memory holds (41_poke_peek.md, section 3; marked derived). -/
def Obligations.PokeThenPeekReturnsThePokedWord : Prop :=
  ∀ (s : State) (a a' v : Word) (es : List HostEvent),
    s.state = .named .idle ∨ s.state = .named .link →
    s.pending = (pokeAccesses a v ++ peekAccesses a').map (eventOfBtw s.cfg.portBase) ++ es →
    (0x80000000 ≤ a.toNat ∧ a.toNat < 0x80200000 → (a'.toNat - 0x80000000) / 4 = (a.toNat - 0x80000000) / 4 →
        0x80000000 ≤ a'.toNat →
      returned 20 s = [byteLane v 0, byteLane v 1, byteLane v 2, byteLane v 3])
    ∧ (¬(0x80000000 ≤ a'.toNat ∧ a'.toNat < 0x80200000) → returned 20 s = [0xAA, 0x55, 0xAA, 0x55])

/-- A whole link query (42_tag_link.md, section 4; marked derived), from `IDLE` or `LINK`, with any number m of reads: after
the pulse's 0xFF the reads return the first m bytes of the matched payload and then 0x5A for each read past its end; with no
match, or for the sentinel, they return m bytes of 0x5A. The block ends in `LINK` with the tag assembled. -/
def Obligations.WholeLinkQueryReturnsThePayload : Prop :=
  ∀ (s : State) (tag : Word) (m : Nat) (es : List HostEvent),
    s.state = .named .idle ∨ s.state = .named .link →
    s.pending = (linkAccesses tag m).map (eventOfBtw s.cfg.portBase) ++ es →
    (∀ i e, lookup s.cfg tag = some i → s.cfg.tagTable[i]? = some e →
      returned (5 + m) s = 0xFF :: (e.payload.take m ++ List.replicate (m - e.payload.length) 0x5A))
    ∧ (lookup s.cfg tag = none → returned (5 + m) s = 0xFF :: List.replicate m 0x5A)
    ∧ ∃ t, Host.Core.run Sys2Proof.core (5 + m) s = .next t ∧ t.state = .named .link ∧ t.tag = tag
        ∧ t.linkEnt = lookup s.cfg tag ∧ t.pending = es

/-! ### Whole-machine rules -/

/-- Interleaving (40_framing.md, section 7; marked derived): register-cell and no-op accesses between the accesses of an
operation make no difference to the PP-FSM, its accumulators, its cursor, memory or the fault registers. -/
def Obligations.InterleavedAccessesDoNotDisturbTheFsm : Prop :=
  ∀ (is : List Instr) (s : State), ∃ t t' : State,
    execAll is s = .next t ∧ execAll (is.filter reachesFsm) s = .next t' ∧ t.fsmPart = t'.fsmPart

/-- The register file is independent of the PP-FSM (43_register_file.md, section 1; that it holds in `FAULT` too is the spec's
decision D11): whatever else is accessed, in whatever state, the cells hold what the cell accesses alone make of them, and
a cell access changes nothing but the cells and the outputs. -/
def Obligations.RegisterFileIsIndependentOfTheFsm : Prop :=
  ∀ (is : List Instr) (s : State),
    (∃ t t' : State, execAll is s = .next t ∧ execAll (is.filter accessesCell) s = .next t' ∧ t.cells = t'.cells)
    ∧ ∀ i, accessesCell i = true → ∃ t, exec i s = .next t ∧ t.fsmPart = s.fsmPart ∧ t.pending = s.pending

/-- The successor state depends only on the current state, the direction, the offset and the data byte (10_state.md, section
1): it does not depend on the accumulators, the cursor, the cells, memory or the table. -/
def Obligations.SuccessorDependsOnStateAndAccessOnly : Prop :=
  ∀ (i : Instr) (s s' t t' : State), s.state = s'.state →
    exec i s = .next t → exec i s' = .next t' → t.state = t'.state

/-- No access aborts an operation (40_framing.md, section 7; the spec's decision D34): from a phase of an operation every
access stays there or moves to the next phase, and from `OPCODE` it stays, or starts an operation, or faults. -/
def Obligations.NoAccessAbortsAnOperation : Prop :=
  ∀ (i : Instr) (s t : State) (p : ProtocolState), s.state = .named p → exec i s = .next t →
    (∀ q, nextPhase p = some q → t.state = .named p ∨ t.state = .named q)
    ∧ (p = .opcode → t.state = .named .opcode ∨ t.state = .named (.pokeA 0) ∨ t.state = .named (.peekA 0)
        ∨ t.state = .named .fault)

/-- `LINK` is left only by the trigger, by a new link-arm pulse, or by a reset, and each drops the cursor (42_tag_link.md,
section 4; the spec's decision D7). The first clause is about accesses; the second about a reset event, which leads to
`IDLE`; the third about every step: `IDLE` is reached from `LINK` by a reset event, and by the two host events that give the
reset values with it, a restore and a power-on (70_reset_and_hazards.md, sections 1 and 3; log 13, log 14), and by nothing
else. -/
def Obligations.LinkIsLeftOnlyByTriggerArmOrReset : Prop :=
  (∀ (i : Instr) (s t : State), s.state = .named .link → exec i s = .next t →
    (t.state = .named .link ∧ t.linkEnt = s.linkEnt)
    ∨ ((∃ b, i = .wrTrigger b) ∧ t.state = .named .opcode ∧ t.linkEnt = none ∧ t.linkOff = 0)
    ∨ (i = .rdLinkarm ∧ t.state = .named (.tagT 0) ∧ t.linkEnt = none ∧ t.linkOff = 0))
  ∧ (∀ (s : State) (es : List HostEvent), s.state = .named .link → s.pending = .reset :: es →
    ∃ t, step s = .next t ∧ t.state = .named .idle ∧ t.linkEnt = none ∧ t.linkOff = 0)
  ∧ ∀ s t : State, s.state = .named .link → step s = .next t →
    (t.state = .named .link ∧ t.linkEnt = s.linkEnt)
    ∨ ((t.state = .named .opcode ∨ t.state = .named (.tagT 0)) ∧ t.linkEnt = none ∧ t.linkOff = 0)
    ∨ ((∃ es, s.pending = .reset :: es ∨ (∃ saved, s.pending = .restore saved :: es)
          ∨ ∃ c, s.pending = .powerOn c :: es)
        ∧ t.state = .named .idle ∧ t.linkEnt = none ∧ t.linkOff = 0)

/-- The reads with side effects (20_memory.md, section 3; marked derived): in a named state, a read changes what the block
holds only where it is `RD_DATA` or `RD_SKIP` in `PEEK_Dk` or `LINK`, or `RD_LINKARM` in `IDLE` or `LINK`. -/
def Obligations.OnlyTheseReadsHaveSideEffects : Prop :=
  ∀ (i : Instr) (s t : State) (p : ProtocolState), s.state = .named p → returnsByte i = true →
    exec i s = .next t → t.blockPart ≠ s.blockPart →
    ((i = .rdData ∨ i = .rdSkip) ∧ ((∃ k, p = .peekD k) ∨ p = .link))
    ∨ (i = .rdLinkarm ∧ (p = .idle ∨ p = .link))

/-- Every read returns exactly one byte and every write none, in every state (00_scope.md, section 4). -/
def Obligations.EveryReadReturnsOneByte : Prop :=
  ∀ (i : Instr) (s t : State), exec i s = .next t → t.rdata.isSome = returnsByte i

/-- The 5-bit code of the state register (10_state.md, section 8; the spec's decision D15): 32 codes, one for each of the 24
states and eight, 0x18-0x1F, that name no state. -/
def Obligations.StateCodesNameEachStateOnce : Prop :=
  (∀ r : StateReg, StateReg.ofCode r.code = r)
  ∧ (∀ c : BitVec 5, (StateReg.ofCode c).code = c)
  ∧ ∀ r : StateReg, (∃ p, r = .named p) ↔ r.code < 0x18
end

