-- ==== Sys2Proof/Laws/Decode.lean ====
section
/-! SUPPORT. The fields of a bus transaction word, and what the decoder reads from the bytes of an encoding. -/

namespace Sys2Proof

/-! ### The fields of a BTW -/

theorem busWord_getLsbD (isWrite : Bool) (off : BitVec 5) (data : Byte) (i : Nat) :
    (busWord isWrite off data).getLsbD i
      = if i < 8 then data.getLsbD i else if i < 13 then off.getLsbD (i - 8) else decide (i = 13) && isWrite := by
  rcases Nat.lt_or_ge i 14 with h | h
  · interval_cases i <;> simp [busWord]
  · rw [BitVec.getLsbD_of_ge _ _ h]
    simp [show ¬i < 8 by omega, show ¬i < 13 by omega, show i ≠ 13 by omega]

@[simp] theorem btwIsWrite_busWord (isWrite : Bool) (off : BitVec 5) (data : Byte) :
    btwIsWrite (busWord isWrite off data) = isWrite := by
  rw [btwIsWrite, busWord_getLsbD]
  simp

@[simp] theorem btwOffset_busWord (isWrite : Bool) (off : BitVec 5) (data : Byte) :
    btwOffset (busWord isWrite off data) = off := by
  apply BitVec.eq_of_getLsbD_eq
  intro i hi
  simp only [btwOffset, BitVec.getLsbD_extractLsb', busWord_getLsbD, hi, decide_true, Bool.true_and]
  rw [if_neg (by omega), if_pos (by omega), Nat.add_sub_cancel_left]

@[simp] theorem btwData_busWord (isWrite : Bool) (off : BitVec 5) (data : Byte) :
    btwData (busWord isWrite off data) = data := by
  apply BitVec.eq_of_getLsbD_eq
  intro i hi
  simp only [btwData, BitVec.getLsbD_extractLsb', busWord_getLsbD, hi, decide_true, Bool.true_and, Nat.zero_add, if_true]

/-- A BTW is its three fields. -/
theorem busWord_fields (w : BitVec 14) : busWord (btwIsWrite w) (btwOffset w) (btwData w) = w := by
  apply BitVec.eq_of_getLsbD_eq
  intro i hi
  rw [busWord_getLsbD]
  simp only [btwData, btwOffset, btwIsWrite, BitVec.getLsbD_extractLsb']
  split
  · next h => simp [h]
  · split
    · next h1 h2 => simp [show i - 8 < 5 by omega, show 8 + (i - 8) = i by omega]
    · next h1 h2 =>
      have h13 : i = 13 := by omega
      subst h13
      simp

/-- Every BTW is made of some three fields. -/
theorem busWord_surjective (w : BitVec 14) : ∃ isWrite off data, w = busWord isWrite off data :=
  ⟨_, _, _, (busWord_fields w).symm⟩

@[simp] theorem decodeBtw_read (off : BitVec 5) (data : Byte) : decodeBtw (busWord false off data) = decodeRead off := by
  simp [decodeBtw]

@[simp] theorem decodeBtw_write (off : BitVec 5) (data : Byte) : decodeBtw (busWord true off data) = decodeWrite off data := by
  simp [decodeBtw]

/-! ### The bytes of a BTW -/

/-- The decoder's word, of the two bytes of a BTW, is the BTW. -/
theorem word_of_busWord_bytes (w : BitVec 14) :
    (((w.setWidth 16).extractLsb' 8 8 ++ w.extractLsb' 0 8 : BitVec 16).setWidth 14 : BitVec 14) = w := by
  apply BitVec.eq_of_getLsbD_eq
  intro i hi
  simp only [BitVec.getLsbD_setWidth, BitVec.getLsbD_append, BitVec.getLsbD_extractLsb', hi, decide_true, Bool.true_and]
  by_cases h8 : i < 8
  · simp [h8]
  · simp [h8, show i - 8 < 8 by omega, show 8 + (i - 8) = i by omega, show i < 16 by omega]

/-- The second byte of a BTW has bits 7:6 zero. -/
theorem busWord_high_byte_lt (w : BitVec 14) : (w.setWidth 16).extractLsb' 8 8 < (0x40 : Byte) := by
  rw [BitVec.lt_def]
  have h := w.isLt
  simp only [BitVec.extractLsb'_toNat, BitVec.toNat_setWidth]
  rw [Nat.mod_eq_of_lt (Nat.lt_of_lt_of_le h (by decide)), Nat.shiftRight_eq_div_pow]
  refine Nat.lt_of_le_of_lt (Nat.mod_le _ _) ?_
  have : (0x40 : Byte).toNat = 64 := rfl
  omega

/-- The decoder reads a BTW from its two bytes. -/
theorem decode_busWord_bytes (w : BitVec 14) :
    decode [w.extractLsb' 0 8, (w.setWidth 16).extractLsb' 8 8] = .ok (decodeBtw w) := by
  simp only [decode, busWord_high_byte_lt, if_true, word_of_busWord_bytes]

@[simp] theorem decode_read_bytes (off : BitVec 5) : decode (encodingBytes (.read off)) = .ok (decodeRead off) := by
  rw [encodingBytes, decode_busWord_bytes, decodeBtw_read]

@[simp] theorem decode_write_bytes (off : BitVec 5) (b : Byte) :
    decode (encodingBytes (.write off b)) = .ok (decodeWrite off b) := by
  rw [encodingBytes, decode_busWord_bytes, decodeBtw_write]

@[simp] theorem decode_opByte_bytes (b : Byte) : decode (encodingBytes (.opByte b)) = .ok (decodeOpByte b) := rfl

end Sys2Proof
end

