-- ==== Sys2Proof/Laws/Operands.lean ====
section
/-! SUPPORT. What byte lanes are: the lanes of a word with one lane replaced, of four assembled bytes, and the word that is
its lanes. -/

namespace Sys2Proof.Machine

/-- Bit `i` of lane `k` is bit `8k + i` of the word. -/
theorem byteLane_getLsbD (w : Word) (k : Lane) (i : Nat) :
    (byteLane w k).getLsbD i = (decide (i < 8) && w.getLsbD (8 * k.val + i)) := by
  simp [byteLane, BitVec.getLsbD_extractLsb']

/-- Two words with the same lanes are equal. -/
theorem eq_of_byteLanes {v w : Word} (h : ∀ k, byteLane v k = byteLane w k) : v = w := by
  apply BitVec.eq_of_getLsbD_eq
  intro i hi
  have hb := congrArg (fun b : Byte => b.getLsbD (i % 8)) (h ⟨i / 8, by omega⟩)
  simp only [byteLane_getLsbD] at hb
  have h8 : i % 8 < 8 := Nat.mod_lt _ (by decide)
  have hr : 8 * (i / 8) + i % 8 = i := Nat.div_add_mod i 8
  simpa [h8, hr] using hb

@[simp] theorem byteLane_setByte_same (w : Word) (k : Lane) (b : Byte) : byteLane (setByte w k b) k = b := by
  apply BitVec.eq_of_getLsbD_eq
  intro i hi
  fin_cases k <;>
    (rw [byteLane_getLsbD]; simp [setByte]; interval_cases i <;> simp)

theorem byteLane_setByte_ne (w : Word) {j k : Lane} (b : Byte) (h : j ≠ k) :
    byteLane (setByte w k b) j = byteLane w j := by
  apply BitVec.eq_of_getLsbD_eq
  intro i hi
  rw [byteLane_getLsbD, byteLane_getLsbD]
  fin_cases k <;> fin_cases j <;> simp_all [setByte] <;> interval_cases i <;> simp

/-- The lanes of a word with one lane replaced. -/
theorem byteLane_setByte (w : Word) (j k : Lane) (b : Byte) :
    byteLane (setByte w k b) j = if j = k then b else byteLane w j := by
  split
  · next h => subst h; simp
  · next h => exact byteLane_setByte_ne w b h

/-- The lanes of four assembled bytes. -/
theorem byteLane_assemble (b0 b1 b2 b3 : Byte) (k : Lane) :
    byteLane (assemble b0 b1 b2 b3) k = ![b0, b1, b2, b3] k := by
  apply BitVec.eq_of_getLsbD_eq
  intro i hi
  rw [byteLane_getLsbD]
  fin_cases k <;> simp [assemble] <;> interval_cases i <;> simp

/-- A word is its four lanes, assembled. -/
@[simp] theorem assemble_byteLanes (w : Word) :
    assemble (byteLane w 0) (byteLane w 1) (byteLane w 2) (byteLane w 3) = w := by
  apply eq_of_byteLanes
  intro k
  rw [byteLane_assemble]
  fin_cases k <;> rfl

/-- Four lanes written in order assemble their bytes, whatever the word held (30_encoding.md rule R95). -/
theorem setByte_four (w : Word) (b0 b1 b2 b3 : Byte) :
    setByte (setByte (setByte (setByte w 0 b0) 1 b1) 2 b2) 3 b3 = assemble b0 b1 b2 b3 := by
  apply eq_of_byteLanes
  intro k
  rw [byteLane_assemble]
  fin_cases k <;> simp [byteLane_setByte]

@[simp] theorem nextLane_zero : nextLane 0 = some 1 := rfl
@[simp] theorem nextLane_one : nextLane 1 = some 2 := rfl
@[simp] theorem nextLane_two : nextLane 2 = some 3 := rfl
@[simp] theorem nextLane_three : nextLane 3 = none := rfl

end Sys2Proof.Machine
end

