-- ==== Sys2Proof/Laws/State.lean ====
section
/-! SUPPORT. One lemma for each field and each update of the state, so that no later proof unfolds a record update. -/

namespace Sys2Proof.Machine

variable (s : State)

@[simp] theorem State.goto_state (p : ProtocolState) : (s.goto p).state = .named p := rfl
@[simp] theorem State.goto_addr (p : ProtocolState) : (s.goto p).addr = s.addr := rfl
@[simp] theorem State.goto_val (p : ProtocolState) : (s.goto p).val = s.val := rfl
@[simp] theorem State.goto_tag (p : ProtocolState) : (s.goto p).tag = s.tag := rfl
@[simp] theorem State.goto_linkEnt (p : ProtocolState) : (s.goto p).linkEnt = s.linkEnt := rfl
@[simp] theorem State.goto_linkOff (p : ProtocolState) : (s.goto p).linkOff = s.linkOff := rfl
@[simp] theorem State.goto_cell07 (p : ProtocolState) : (s.goto p).cell07 = s.cell07 := rfl
@[simp] theorem State.goto_cell10 (p : ProtocolState) : (s.goto p).cell10 = s.cell10 := rfl
@[simp] theorem State.goto_cell11 (p : ProtocolState) : (s.goto p).cell11 = s.cell11 := rfl
@[simp] theorem State.goto_cell14 (p : ProtocolState) : (s.goto p).cell14 = s.cell14 := rfl
@[simp] theorem State.goto_mem (p : ProtocolState) : (s.goto p).mem = s.mem := rfl
@[simp] theorem State.goto_memFill (p : ProtocolState) : (s.goto p).memFill = s.memFill := rfl
@[simp] theorem State.goto_faultCode (p : ProtocolState) : (s.goto p).faultCode = s.faultCode := rfl
@[simp] theorem State.goto_faultInfo (p : ProtocolState) : (s.goto p).faultInfo = s.faultInfo := rfl
@[simp] theorem State.goto_cfg (p : ProtocolState) : (s.goto p).cfg = s.cfg := rfl
@[simp] theorem State.goto_rdata (p : ProtocolState) : (s.goto p).rdata = s.rdata := rfl
@[simp] theorem State.goto_diag (p : ProtocolState) : (s.goto p).diag = s.diag := rfl
@[simp] theorem State.goto_pending (p : ProtocolState) : (s.goto p).pending = s.pending := rfl

@[simp] theorem State.setAddr_state (w : Word) : (s.setAddr w).state = s.state := rfl
@[simp] theorem State.setAddr_addr (w : Word) : (s.setAddr w).addr = w := rfl
@[simp] theorem State.setAddr_val (w : Word) : (s.setAddr w).val = s.val := rfl
@[simp] theorem State.setAddr_tag (w : Word) : (s.setAddr w).tag = s.tag := rfl
@[simp] theorem State.setAddr_linkEnt (w : Word) : (s.setAddr w).linkEnt = s.linkEnt := rfl
@[simp] theorem State.setAddr_linkOff (w : Word) : (s.setAddr w).linkOff = s.linkOff := rfl
@[simp] theorem State.setAddr_cell07 (w : Word) : (s.setAddr w).cell07 = s.cell07 := rfl
@[simp] theorem State.setAddr_cell10 (w : Word) : (s.setAddr w).cell10 = s.cell10 := rfl
@[simp] theorem State.setAddr_cell11 (w : Word) : (s.setAddr w).cell11 = s.cell11 := rfl
@[simp] theorem State.setAddr_cell14 (w : Word) : (s.setAddr w).cell14 = s.cell14 := rfl
@[simp] theorem State.setAddr_mem (w : Word) : (s.setAddr w).mem = s.mem := rfl
@[simp] theorem State.setAddr_memFill (w : Word) : (s.setAddr w).memFill = s.memFill := rfl
@[simp] theorem State.setAddr_faultCode (w : Word) : (s.setAddr w).faultCode = s.faultCode := rfl
@[simp] theorem State.setAddr_faultInfo (w : Word) : (s.setAddr w).faultInfo = s.faultInfo := rfl
@[simp] theorem State.setAddr_cfg (w : Word) : (s.setAddr w).cfg = s.cfg := rfl
@[simp] theorem State.setAddr_rdata (w : Word) : (s.setAddr w).rdata = s.rdata := rfl
@[simp] theorem State.setAddr_diag (w : Word) : (s.setAddr w).diag = s.diag := rfl
@[simp] theorem State.setAddr_pending (w : Word) : (s.setAddr w).pending = s.pending := rfl

@[simp] theorem State.setVal_state (w : Word) : (s.setVal w).state = s.state := rfl
@[simp] theorem State.setVal_addr (w : Word) : (s.setVal w).addr = s.addr := rfl
@[simp] theorem State.setVal_val (w : Word) : (s.setVal w).val = w := rfl
@[simp] theorem State.setVal_tag (w : Word) : (s.setVal w).tag = s.tag := rfl
@[simp] theorem State.setVal_linkEnt (w : Word) : (s.setVal w).linkEnt = s.linkEnt := rfl
@[simp] theorem State.setVal_linkOff (w : Word) : (s.setVal w).linkOff = s.linkOff := rfl
@[simp] theorem State.setVal_cell07 (w : Word) : (s.setVal w).cell07 = s.cell07 := rfl
@[simp] theorem State.setVal_cell10 (w : Word) : (s.setVal w).cell10 = s.cell10 := rfl
@[simp] theorem State.setVal_cell11 (w : Word) : (s.setVal w).cell11 = s.cell11 := rfl
@[simp] theorem State.setVal_cell14 (w : Word) : (s.setVal w).cell14 = s.cell14 := rfl
@[simp] theorem State.setVal_mem (w : Word) : (s.setVal w).mem = s.mem := rfl
@[simp] theorem State.setVal_memFill (w : Word) : (s.setVal w).memFill = s.memFill := rfl
@[simp] theorem State.setVal_faultCode (w : Word) : (s.setVal w).faultCode = s.faultCode := rfl
@[simp] theorem State.setVal_faultInfo (w : Word) : (s.setVal w).faultInfo = s.faultInfo := rfl
@[simp] theorem State.setVal_cfg (w : Word) : (s.setVal w).cfg = s.cfg := rfl
@[simp] theorem State.setVal_rdata (w : Word) : (s.setVal w).rdata = s.rdata := rfl
@[simp] theorem State.setVal_diag (w : Word) : (s.setVal w).diag = s.diag := rfl
@[simp] theorem State.setVal_pending (w : Word) : (s.setVal w).pending = s.pending := rfl

@[simp] theorem State.setTag_state (w : Word) : (s.setTag w).state = s.state := rfl
@[simp] theorem State.setTag_addr (w : Word) : (s.setTag w).addr = s.addr := rfl
@[simp] theorem State.setTag_val (w : Word) : (s.setTag w).val = s.val := rfl
@[simp] theorem State.setTag_tag (w : Word) : (s.setTag w).tag = w := rfl
@[simp] theorem State.setTag_linkEnt (w : Word) : (s.setTag w).linkEnt = s.linkEnt := rfl
@[simp] theorem State.setTag_linkOff (w : Word) : (s.setTag w).linkOff = s.linkOff := rfl
@[simp] theorem State.setTag_cell07 (w : Word) : (s.setTag w).cell07 = s.cell07 := rfl
@[simp] theorem State.setTag_cell10 (w : Word) : (s.setTag w).cell10 = s.cell10 := rfl
@[simp] theorem State.setTag_cell11 (w : Word) : (s.setTag w).cell11 = s.cell11 := rfl
@[simp] theorem State.setTag_cell14 (w : Word) : (s.setTag w).cell14 = s.cell14 := rfl
@[simp] theorem State.setTag_mem (w : Word) : (s.setTag w).mem = s.mem := rfl
@[simp] theorem State.setTag_memFill (w : Word) : (s.setTag w).memFill = s.memFill := rfl
@[simp] theorem State.setTag_faultCode (w : Word) : (s.setTag w).faultCode = s.faultCode := rfl
@[simp] theorem State.setTag_faultInfo (w : Word) : (s.setTag w).faultInfo = s.faultInfo := rfl
@[simp] theorem State.setTag_cfg (w : Word) : (s.setTag w).cfg = s.cfg := rfl
@[simp] theorem State.setTag_rdata (w : Word) : (s.setTag w).rdata = s.rdata := rfl
@[simp] theorem State.setTag_diag (w : Word) : (s.setTag w).diag = s.diag := rfl
@[simp] theorem State.setTag_pending (w : Word) : (s.setTag w).pending = s.pending := rfl

@[simp] theorem State.setCursor_state (e : Option Nat) (o : Nat) : (s.setCursor e o).state = s.state := rfl
@[simp] theorem State.setCursor_addr (e : Option Nat) (o : Nat) : (s.setCursor e o).addr = s.addr := rfl
@[simp] theorem State.setCursor_val (e : Option Nat) (o : Nat) : (s.setCursor e o).val = s.val := rfl
@[simp] theorem State.setCursor_tag (e : Option Nat) (o : Nat) : (s.setCursor e o).tag = s.tag := rfl
@[simp] theorem State.setCursor_linkEnt (e : Option Nat) (o : Nat) : (s.setCursor e o).linkEnt = e := rfl
@[simp] theorem State.setCursor_linkOff (e : Option Nat) (o : Nat) : (s.setCursor e o).linkOff = o := rfl
@[simp] theorem State.setCursor_cell07 (e : Option Nat) (o : Nat) : (s.setCursor e o).cell07 = s.cell07 := rfl
@[simp] theorem State.setCursor_cell10 (e : Option Nat) (o : Nat) : (s.setCursor e o).cell10 = s.cell10 := rfl
@[simp] theorem State.setCursor_cell11 (e : Option Nat) (o : Nat) : (s.setCursor e o).cell11 = s.cell11 := rfl
@[simp] theorem State.setCursor_cell14 (e : Option Nat) (o : Nat) : (s.setCursor e o).cell14 = s.cell14 := rfl
@[simp] theorem State.setCursor_mem (e : Option Nat) (o : Nat) : (s.setCursor e o).mem = s.mem := rfl
@[simp] theorem State.setCursor_memFill (e : Option Nat) (o : Nat) : (s.setCursor e o).memFill = s.memFill := rfl
@[simp] theorem State.setCursor_faultCode (e : Option Nat) (o : Nat) : (s.setCursor e o).faultCode = s.faultCode := rfl
@[simp] theorem State.setCursor_faultInfo (e : Option Nat) (o : Nat) : (s.setCursor e o).faultInfo = s.faultInfo := rfl
@[simp] theorem State.setCursor_cfg (e : Option Nat) (o : Nat) : (s.setCursor e o).cfg = s.cfg := rfl
@[simp] theorem State.setCursor_rdata (e : Option Nat) (o : Nat) : (s.setCursor e o).rdata = s.rdata := rfl
@[simp] theorem State.setCursor_diag (e : Option Nat) (o : Nat) : (s.setCursor e o).diag = s.diag := rfl
@[simp] theorem State.setCursor_pending (e : Option Nat) (o : Nat) : (s.setCursor e o).pending = s.pending := rfl

@[simp] theorem State.setCell07_state (b : Byte) : (s.setCell07 b).state = s.state := rfl
@[simp] theorem State.setCell07_addr (b : Byte) : (s.setCell07 b).addr = s.addr := rfl
@[simp] theorem State.setCell07_val (b : Byte) : (s.setCell07 b).val = s.val := rfl
@[simp] theorem State.setCell07_tag (b : Byte) : (s.setCell07 b).tag = s.tag := rfl
@[simp] theorem State.setCell07_linkEnt (b : Byte) : (s.setCell07 b).linkEnt = s.linkEnt := rfl
@[simp] theorem State.setCell07_linkOff (b : Byte) : (s.setCell07 b).linkOff = s.linkOff := rfl
@[simp] theorem State.setCell07_cell07 (b : Byte) : (s.setCell07 b).cell07 = b := rfl
@[simp] theorem State.setCell07_cell10 (b : Byte) : (s.setCell07 b).cell10 = s.cell10 := rfl
@[simp] theorem State.setCell07_cell11 (b : Byte) : (s.setCell07 b).cell11 = s.cell11 := rfl
@[simp] theorem State.setCell07_cell14 (b : Byte) : (s.setCell07 b).cell14 = s.cell14 := rfl
@[simp] theorem State.setCell07_mem (b : Byte) : (s.setCell07 b).mem = s.mem := rfl
@[simp] theorem State.setCell07_memFill (b : Byte) : (s.setCell07 b).memFill = s.memFill := rfl
@[simp] theorem State.setCell07_faultCode (b : Byte) : (s.setCell07 b).faultCode = s.faultCode := rfl
@[simp] theorem State.setCell07_faultInfo (b : Byte) : (s.setCell07 b).faultInfo = s.faultInfo := rfl
@[simp] theorem State.setCell07_cfg (b : Byte) : (s.setCell07 b).cfg = s.cfg := rfl
@[simp] theorem State.setCell07_rdata (b : Byte) : (s.setCell07 b).rdata = s.rdata := rfl
@[simp] theorem State.setCell07_diag (b : Byte) : (s.setCell07 b).diag = s.diag := rfl
@[simp] theorem State.setCell07_pending (b : Byte) : (s.setCell07 b).pending = s.pending := rfl

@[simp] theorem State.setCell10_state (b : Byte) : (s.setCell10 b).state = s.state := rfl
@[simp] theorem State.setCell10_addr (b : Byte) : (s.setCell10 b).addr = s.addr := rfl
@[simp] theorem State.setCell10_val (b : Byte) : (s.setCell10 b).val = s.val := rfl
@[simp] theorem State.setCell10_tag (b : Byte) : (s.setCell10 b).tag = s.tag := rfl
@[simp] theorem State.setCell10_linkEnt (b : Byte) : (s.setCell10 b).linkEnt = s.linkEnt := rfl
@[simp] theorem State.setCell10_linkOff (b : Byte) : (s.setCell10 b).linkOff = s.linkOff := rfl
@[simp] theorem State.setCell10_cell07 (b : Byte) : (s.setCell10 b).cell07 = s.cell07 := rfl
@[simp] theorem State.setCell10_cell10 (b : Byte) : (s.setCell10 b).cell10 = b := rfl
@[simp] theorem State.setCell10_cell11 (b : Byte) : (s.setCell10 b).cell11 = s.cell11 := rfl
@[simp] theorem State.setCell10_cell14 (b : Byte) : (s.setCell10 b).cell14 = s.cell14 := rfl
@[simp] theorem State.setCell10_mem (b : Byte) : (s.setCell10 b).mem = s.mem := rfl
@[simp] theorem State.setCell10_memFill (b : Byte) : (s.setCell10 b).memFill = s.memFill := rfl
@[simp] theorem State.setCell10_faultCode (b : Byte) : (s.setCell10 b).faultCode = s.faultCode := rfl
@[simp] theorem State.setCell10_faultInfo (b : Byte) : (s.setCell10 b).faultInfo = s.faultInfo := rfl
@[simp] theorem State.setCell10_cfg (b : Byte) : (s.setCell10 b).cfg = s.cfg := rfl
@[simp] theorem State.setCell10_rdata (b : Byte) : (s.setCell10 b).rdata = s.rdata := rfl
@[simp] theorem State.setCell10_diag (b : Byte) : (s.setCell10 b).diag = s.diag := rfl
@[simp] theorem State.setCell10_pending (b : Byte) : (s.setCell10 b).pending = s.pending := rfl

@[simp] theorem State.setCell11_state (b : Byte) : (s.setCell11 b).state = s.state := rfl
@[simp] theorem State.setCell11_addr (b : Byte) : (s.setCell11 b).addr = s.addr := rfl
@[simp] theorem State.setCell11_val (b : Byte) : (s.setCell11 b).val = s.val := rfl
@[simp] theorem State.setCell11_tag (b : Byte) : (s.setCell11 b).tag = s.tag := rfl
@[simp] theorem State.setCell11_linkEnt (b : Byte) : (s.setCell11 b).linkEnt = s.linkEnt := rfl
@[simp] theorem State.setCell11_linkOff (b : Byte) : (s.setCell11 b).linkOff = s.linkOff := rfl
@[simp] theorem State.setCell11_cell07 (b : Byte) : (s.setCell11 b).cell07 = s.cell07 := rfl
@[simp] theorem State.setCell11_cell10 (b : Byte) : (s.setCell11 b).cell10 = s.cell10 := rfl
@[simp] theorem State.setCell11_cell11 (b : Byte) : (s.setCell11 b).cell11 = b := rfl
@[simp] theorem State.setCell11_cell14 (b : Byte) : (s.setCell11 b).cell14 = s.cell14 := rfl
@[simp] theorem State.setCell11_mem (b : Byte) : (s.setCell11 b).mem = s.mem := rfl
@[simp] theorem State.setCell11_memFill (b : Byte) : (s.setCell11 b).memFill = s.memFill := rfl
@[simp] theorem State.setCell11_faultCode (b : Byte) : (s.setCell11 b).faultCode = s.faultCode := rfl
@[simp] theorem State.setCell11_faultInfo (b : Byte) : (s.setCell11 b).faultInfo = s.faultInfo := rfl
@[simp] theorem State.setCell11_cfg (b : Byte) : (s.setCell11 b).cfg = s.cfg := rfl
@[simp] theorem State.setCell11_rdata (b : Byte) : (s.setCell11 b).rdata = s.rdata := rfl
@[simp] theorem State.setCell11_diag (b : Byte) : (s.setCell11 b).diag = s.diag := rfl
@[simp] theorem State.setCell11_pending (b : Byte) : (s.setCell11 b).pending = s.pending := rfl

@[simp] theorem State.setCell14_state (b : Byte) : (s.setCell14 b).state = s.state := rfl
@[simp] theorem State.setCell14_addr (b : Byte) : (s.setCell14 b).addr = s.addr := rfl
@[simp] theorem State.setCell14_val (b : Byte) : (s.setCell14 b).val = s.val := rfl
@[simp] theorem State.setCell14_tag (b : Byte) : (s.setCell14 b).tag = s.tag := rfl
@[simp] theorem State.setCell14_linkEnt (b : Byte) : (s.setCell14 b).linkEnt = s.linkEnt := rfl
@[simp] theorem State.setCell14_linkOff (b : Byte) : (s.setCell14 b).linkOff = s.linkOff := rfl
@[simp] theorem State.setCell14_cell07 (b : Byte) : (s.setCell14 b).cell07 = s.cell07 := rfl
@[simp] theorem State.setCell14_cell10 (b : Byte) : (s.setCell14 b).cell10 = s.cell10 := rfl
@[simp] theorem State.setCell14_cell11 (b : Byte) : (s.setCell14 b).cell11 = s.cell11 := rfl
@[simp] theorem State.setCell14_cell14 (b : Byte) : (s.setCell14 b).cell14 = b := rfl
@[simp] theorem State.setCell14_mem (b : Byte) : (s.setCell14 b).mem = s.mem := rfl
@[simp] theorem State.setCell14_memFill (b : Byte) : (s.setCell14 b).memFill = s.memFill := rfl
@[simp] theorem State.setCell14_faultCode (b : Byte) : (s.setCell14 b).faultCode = s.faultCode := rfl
@[simp] theorem State.setCell14_faultInfo (b : Byte) : (s.setCell14 b).faultInfo = s.faultInfo := rfl
@[simp] theorem State.setCell14_cfg (b : Byte) : (s.setCell14 b).cfg = s.cfg := rfl
@[simp] theorem State.setCell14_rdata (b : Byte) : (s.setCell14 b).rdata = s.rdata := rfl
@[simp] theorem State.setCell14_diag (b : Byte) : (s.setCell14 b).diag = s.diag := rfl
@[simp] theorem State.setCell14_pending (b : Byte) : (s.setCell14 b).pending = s.pending := rfl

@[simp] theorem State.setMem_state (m : List Host.Cell) : (s.setMem m).state = s.state := rfl
@[simp] theorem State.setMem_addr (m : List Host.Cell) : (s.setMem m).addr = s.addr := rfl
@[simp] theorem State.setMem_val (m : List Host.Cell) : (s.setMem m).val = s.val := rfl
@[simp] theorem State.setMem_tag (m : List Host.Cell) : (s.setMem m).tag = s.tag := rfl
@[simp] theorem State.setMem_linkEnt (m : List Host.Cell) : (s.setMem m).linkEnt = s.linkEnt := rfl
@[simp] theorem State.setMem_linkOff (m : List Host.Cell) : (s.setMem m).linkOff = s.linkOff := rfl
@[simp] theorem State.setMem_cell07 (m : List Host.Cell) : (s.setMem m).cell07 = s.cell07 := rfl
@[simp] theorem State.setMem_cell10 (m : List Host.Cell) : (s.setMem m).cell10 = s.cell10 := rfl
@[simp] theorem State.setMem_cell11 (m : List Host.Cell) : (s.setMem m).cell11 = s.cell11 := rfl
@[simp] theorem State.setMem_cell14 (m : List Host.Cell) : (s.setMem m).cell14 = s.cell14 := rfl
@[simp] theorem State.setMem_mem (m : List Host.Cell) : (s.setMem m).mem = m := rfl
@[simp] theorem State.setMem_memFill (m : List Host.Cell) : (s.setMem m).memFill = s.memFill := rfl
@[simp] theorem State.setMem_faultCode (m : List Host.Cell) : (s.setMem m).faultCode = s.faultCode := rfl
@[simp] theorem State.setMem_faultInfo (m : List Host.Cell) : (s.setMem m).faultInfo = s.faultInfo := rfl
@[simp] theorem State.setMem_cfg (m : List Host.Cell) : (s.setMem m).cfg = s.cfg := rfl
@[simp] theorem State.setMem_rdata (m : List Host.Cell) : (s.setMem m).rdata = s.rdata := rfl
@[simp] theorem State.setMem_diag (m : List Host.Cell) : (s.setMem m).diag = s.diag := rfl
@[simp] theorem State.setMem_pending (m : List Host.Cell) : (s.setMem m).pending = s.pending := rfl

@[simp] theorem State.setMemFill_state (f : MemFill) : (s.setMemFill f).state = s.state := rfl
@[simp] theorem State.setMemFill_addr (f : MemFill) : (s.setMemFill f).addr = s.addr := rfl
@[simp] theorem State.setMemFill_val (f : MemFill) : (s.setMemFill f).val = s.val := rfl
@[simp] theorem State.setMemFill_tag (f : MemFill) : (s.setMemFill f).tag = s.tag := rfl
@[simp] theorem State.setMemFill_linkEnt (f : MemFill) : (s.setMemFill f).linkEnt = s.linkEnt := rfl
@[simp] theorem State.setMemFill_linkOff (f : MemFill) : (s.setMemFill f).linkOff = s.linkOff := rfl
@[simp] theorem State.setMemFill_cell07 (f : MemFill) : (s.setMemFill f).cell07 = s.cell07 := rfl
@[simp] theorem State.setMemFill_cell10 (f : MemFill) : (s.setMemFill f).cell10 = s.cell10 := rfl
@[simp] theorem State.setMemFill_cell11 (f : MemFill) : (s.setMemFill f).cell11 = s.cell11 := rfl
@[simp] theorem State.setMemFill_cell14 (f : MemFill) : (s.setMemFill f).cell14 = s.cell14 := rfl
@[simp] theorem State.setMemFill_mem (f : MemFill) : (s.setMemFill f).mem = s.mem := rfl
@[simp] theorem State.setMemFill_memFill (f : MemFill) : (s.setMemFill f).memFill = f := rfl
@[simp] theorem State.setMemFill_faultCode (f : MemFill) : (s.setMemFill f).faultCode = s.faultCode := rfl
@[simp] theorem State.setMemFill_faultInfo (f : MemFill) : (s.setMemFill f).faultInfo = s.faultInfo := rfl
@[simp] theorem State.setMemFill_cfg (f : MemFill) : (s.setMemFill f).cfg = s.cfg := rfl
@[simp] theorem State.setMemFill_rdata (f : MemFill) : (s.setMemFill f).rdata = s.rdata := rfl
@[simp] theorem State.setMemFill_diag (f : MemFill) : (s.setMemFill f).diag = s.diag := rfl
@[simp] theorem State.setMemFill_pending (f : MemFill) : (s.setMemFill f).pending = s.pending := rfl

@[simp] theorem State.setFault_state (code info : Byte) : (s.setFault code info).state = s.state := rfl
@[simp] theorem State.setFault_addr (code info : Byte) : (s.setFault code info).addr = s.addr := rfl
@[simp] theorem State.setFault_val (code info : Byte) : (s.setFault code info).val = s.val := rfl
@[simp] theorem State.setFault_tag (code info : Byte) : (s.setFault code info).tag = s.tag := rfl
@[simp] theorem State.setFault_linkEnt (code info : Byte) : (s.setFault code info).linkEnt = s.linkEnt := rfl
@[simp] theorem State.setFault_linkOff (code info : Byte) : (s.setFault code info).linkOff = s.linkOff := rfl
@[simp] theorem State.setFault_cell07 (code info : Byte) : (s.setFault code info).cell07 = s.cell07 := rfl
@[simp] theorem State.setFault_cell10 (code info : Byte) : (s.setFault code info).cell10 = s.cell10 := rfl
@[simp] theorem State.setFault_cell11 (code info : Byte) : (s.setFault code info).cell11 = s.cell11 := rfl
@[simp] theorem State.setFault_cell14 (code info : Byte) : (s.setFault code info).cell14 = s.cell14 := rfl
@[simp] theorem State.setFault_mem (code info : Byte) : (s.setFault code info).mem = s.mem := rfl
@[simp] theorem State.setFault_memFill (code info : Byte) : (s.setFault code info).memFill = s.memFill := rfl
@[simp] theorem State.setFault_faultCode (code info : Byte) : (s.setFault code info).faultCode = code := rfl
@[simp] theorem State.setFault_faultInfo (code info : Byte) : (s.setFault code info).faultInfo = info := rfl
@[simp] theorem State.setFault_cfg (code info : Byte) : (s.setFault code info).cfg = s.cfg := rfl
@[simp] theorem State.setFault_rdata (code info : Byte) : (s.setFault code info).rdata = s.rdata := rfl
@[simp] theorem State.setFault_diag (code info : Byte) : (s.setFault code info).diag = s.diag := rfl
@[simp] theorem State.setFault_pending (code info : Byte) : (s.setFault code info).pending = s.pending := rfl

@[simp] theorem State.reply_state (out : Option Byte) : (s.reply out).state = s.state := rfl
@[simp] theorem State.reply_addr (out : Option Byte) : (s.reply out).addr = s.addr := rfl
@[simp] theorem State.reply_val (out : Option Byte) : (s.reply out).val = s.val := rfl
@[simp] theorem State.reply_tag (out : Option Byte) : (s.reply out).tag = s.tag := rfl
@[simp] theorem State.reply_linkEnt (out : Option Byte) : (s.reply out).linkEnt = s.linkEnt := rfl
@[simp] theorem State.reply_linkOff (out : Option Byte) : (s.reply out).linkOff = s.linkOff := rfl
@[simp] theorem State.reply_cell07 (out : Option Byte) : (s.reply out).cell07 = s.cell07 := rfl
@[simp] theorem State.reply_cell10 (out : Option Byte) : (s.reply out).cell10 = s.cell10 := rfl
@[simp] theorem State.reply_cell11 (out : Option Byte) : (s.reply out).cell11 = s.cell11 := rfl
@[simp] theorem State.reply_cell14 (out : Option Byte) : (s.reply out).cell14 = s.cell14 := rfl
@[simp] theorem State.reply_mem (out : Option Byte) : (s.reply out).mem = s.mem := rfl
@[simp] theorem State.reply_memFill (out : Option Byte) : (s.reply out).memFill = s.memFill := rfl
@[simp] theorem State.reply_faultCode (out : Option Byte) : (s.reply out).faultCode = s.faultCode := rfl
@[simp] theorem State.reply_faultInfo (out : Option Byte) : (s.reply out).faultInfo = s.faultInfo := rfl
@[simp] theorem State.reply_cfg (out : Option Byte) : (s.reply out).cfg = s.cfg := rfl
@[simp] theorem State.reply_rdata (out : Option Byte) : (s.reply out).rdata = out := rfl
@[simp] theorem State.reply_diag (out : Option Byte) : (s.reply out).diag = none := rfl
@[simp] theorem State.reply_pending (out : Option Byte) : (s.reply out).pending = s.pending := rfl

@[simp] theorem State.report_state (out : Option Byte) (d : DiagEvent) : (s.report out d).state = s.state := rfl
@[simp] theorem State.report_addr (out : Option Byte) (d : DiagEvent) : (s.report out d).addr = s.addr := rfl
@[simp] theorem State.report_val (out : Option Byte) (d : DiagEvent) : (s.report out d).val = s.val := rfl
@[simp] theorem State.report_tag (out : Option Byte) (d : DiagEvent) : (s.report out d).tag = s.tag := rfl
@[simp] theorem State.report_linkEnt (out : Option Byte) (d : DiagEvent) : (s.report out d).linkEnt = s.linkEnt := rfl
@[simp] theorem State.report_linkOff (out : Option Byte) (d : DiagEvent) : (s.report out d).linkOff = s.linkOff := rfl
@[simp] theorem State.report_cell07 (out : Option Byte) (d : DiagEvent) : (s.report out d).cell07 = s.cell07 := rfl
@[simp] theorem State.report_cell10 (out : Option Byte) (d : DiagEvent) : (s.report out d).cell10 = s.cell10 := rfl
@[simp] theorem State.report_cell11 (out : Option Byte) (d : DiagEvent) : (s.report out d).cell11 = s.cell11 := rfl
@[simp] theorem State.report_cell14 (out : Option Byte) (d : DiagEvent) : (s.report out d).cell14 = s.cell14 := rfl
@[simp] theorem State.report_mem (out : Option Byte) (d : DiagEvent) : (s.report out d).mem = s.mem := rfl
@[simp] theorem State.report_memFill (out : Option Byte) (d : DiagEvent) : (s.report out d).memFill = s.memFill := rfl
@[simp] theorem State.report_faultCode (out : Option Byte) (d : DiagEvent) : (s.report out d).faultCode = s.faultCode := rfl
@[simp] theorem State.report_faultInfo (out : Option Byte) (d : DiagEvent) : (s.report out d).faultInfo = s.faultInfo := rfl
@[simp] theorem State.report_cfg (out : Option Byte) (d : DiagEvent) : (s.report out d).cfg = s.cfg := rfl
@[simp] theorem State.report_rdata (out : Option Byte) (d : DiagEvent) : (s.report out d).rdata = out := rfl
@[simp] theorem State.report_diag (out : Option Byte) (d : DiagEvent) : (s.report out d).diag = some d := rfl
@[simp] theorem State.report_pending (out : Option Byte) (d : DiagEvent) : (s.report out d).pending = s.pending := rfl

@[simp] theorem State.setPending_state (es : List HostEvent) : (s.setPending es).state = s.state := rfl
@[simp] theorem State.setPending_addr (es : List HostEvent) : (s.setPending es).addr = s.addr := rfl
@[simp] theorem State.setPending_val (es : List HostEvent) : (s.setPending es).val = s.val := rfl
@[simp] theorem State.setPending_tag (es : List HostEvent) : (s.setPending es).tag = s.tag := rfl
@[simp] theorem State.setPending_linkEnt (es : List HostEvent) : (s.setPending es).linkEnt = s.linkEnt := rfl
@[simp] theorem State.setPending_linkOff (es : List HostEvent) : (s.setPending es).linkOff = s.linkOff := rfl
@[simp] theorem State.setPending_cell07 (es : List HostEvent) : (s.setPending es).cell07 = s.cell07 := rfl
@[simp] theorem State.setPending_cell10 (es : List HostEvent) : (s.setPending es).cell10 = s.cell10 := rfl
@[simp] theorem State.setPending_cell11 (es : List HostEvent) : (s.setPending es).cell11 = s.cell11 := rfl
@[simp] theorem State.setPending_cell14 (es : List HostEvent) : (s.setPending es).cell14 = s.cell14 := rfl
@[simp] theorem State.setPending_mem (es : List HostEvent) : (s.setPending es).mem = s.mem := rfl
@[simp] theorem State.setPending_memFill (es : List HostEvent) : (s.setPending es).memFill = s.memFill := rfl
@[simp] theorem State.setPending_faultCode (es : List HostEvent) : (s.setPending es).faultCode = s.faultCode := rfl
@[simp] theorem State.setPending_faultInfo (es : List HostEvent) : (s.setPending es).faultInfo = s.faultInfo := rfl
@[simp] theorem State.setPending_cfg (es : List HostEvent) : (s.setPending es).cfg = s.cfg := rfl
@[simp] theorem State.setPending_rdata (es : List HostEvent) : (s.setPending es).rdata = s.rdata := rfl
@[simp] theorem State.setPending_diag (es : List HostEvent) : (s.setPending es).diag = s.diag := rfl
@[simp] theorem State.setPending_pending (es : List HostEvent) : (s.setPending es).pending = es := rfl

@[simp] theorem State.attached_state (cfg : Setup) (load : Nat) : (State.attached cfg load).state = .named .idle := rfl
@[simp] theorem State.attached_addr (cfg : Setup) (load : Nat) : (State.attached cfg load).addr = 0 := rfl
@[simp] theorem State.attached_val (cfg : Setup) (load : Nat) : (State.attached cfg load).val = 0 := rfl
@[simp] theorem State.attached_tag (cfg : Setup) (load : Nat) : (State.attached cfg load).tag = 0 := rfl
@[simp] theorem State.attached_linkEnt (cfg : Setup) (load : Nat) : (State.attached cfg load).linkEnt = none := rfl
@[simp] theorem State.attached_linkOff (cfg : Setup) (load : Nat) : (State.attached cfg load).linkOff = 0 := rfl
@[simp] theorem State.attached_cell07 (cfg : Setup) (load : Nat) : (State.attached cfg load).cell07 = 0 := rfl
@[simp] theorem State.attached_cell10 (cfg : Setup) (load : Nat) : (State.attached cfg load).cell10 = 0 := rfl
@[simp] theorem State.attached_cell11 (cfg : Setup) (load : Nat) : (State.attached cfg load).cell11 = 0 := rfl
@[simp] theorem State.attached_cell14 (cfg : Setup) (load : Nat) : (State.attached cfg load).cell14 = 0 := rfl
@[simp] theorem State.attached_mem (cfg : Setup) (load : Nat) : (State.attached cfg load).mem = [] := rfl
@[simp] theorem State.attached_memFill (cfg : Setup) (load : Nat) : (State.attached cfg load).memFill = ⟨load, false⟩ := rfl
@[simp] theorem State.attached_faultCode (cfg : Setup) (load : Nat) : (State.attached cfg load).faultCode = 0 := rfl
@[simp] theorem State.attached_faultInfo (cfg : Setup) (load : Nat) : (State.attached cfg load).faultInfo = 0 := rfl
@[simp] theorem State.attached_cfg (cfg : Setup) (load : Nat) : (State.attached cfg load).cfg = cfg := rfl
@[simp] theorem State.attached_rdata (cfg : Setup) (load : Nat) : (State.attached cfg load).rdata = none := rfl
@[simp] theorem State.attached_diag (cfg : Setup) (load : Nat) : (State.attached cfg load).diag = none := rfl
@[simp] theorem State.attached_pending (cfg : Setup) (load : Nat) : (State.attached cfg load).pending = [] := rfl

/-- Two states with equal fields are equal. -/
theorem State.eq_of_fields {s t : State}
    (h0 : s.state = t.state)
    (h1 : s.addr = t.addr)
    (h2 : s.val = t.val)
    (h3 : s.tag = t.tag)
    (h4 : s.linkEnt = t.linkEnt)
    (h5 : s.linkOff = t.linkOff)
    (h6 : s.cell07 = t.cell07)
    (h7 : s.cell10 = t.cell10)
    (h8 : s.cell11 = t.cell11)
    (h9 : s.cell14 = t.cell14)
    (h10 : s.mem = t.mem)
    (h11 : s.memFill = t.memFill)
    (h12 : s.faultCode = t.faultCode)
    (h13 : s.faultInfo = t.faultInfo)
    (h14 : s.cfg = t.cfg)
    (h15 : s.rdata = t.rdata)
    (h16 : s.diag = t.diag)
    (h17 : s.pending = t.pending) : s = t := by
  cases s; cases t; simp_all

end Sys2Proof.Machine
end

