-- ==== Sys2Proof/Laws/Memory.lean ====
section
/-! SUPPORT. Backing memory: read after write, the canonical form and that every memory operation keeps it, and what
`MemRead` gives after `MemWrite` (spec/20_memory.md rules R65-R67). -/

namespace Sys2Proof.Machine

/-! ### Addresses -/

theorem inRange_iff (a : Nat) : inRange a = true ↔ 0x80000000 ≤ a ∧ a < 0x80200000 := by
  simp only [inRange, Bool.and_eq_true, decide_eq_true_eq]
  simp only [Params.memBase, Params.memSize]

theorem wordIndex_lt {a : Nat} (h : inRange a = true) : wordIndex a < Params.memWords := by
  rw [inRange_iff] at h
  simp only [wordIndex, Params.memWords, Params.memBase, Params.memSize]
  omega

@[simp] theorem wordIndex_byteAddress (i : Nat) (k : Lane) : wordIndex (byteAddress i k) = i := by
  have := k.isLt
  simp only [wordIndex, byteAddress, Params.memBase]
  omega

theorem inRange_byteAddress {i : Nat} (h : i < Params.memWords) (k : Lane) : inRange (byteAddress i k) = true := by
  have := k.isLt
  rw [inRange_iff]
  simp only [Params.memWords, Params.memSize] at h
  simp only [byteAddress, Params.memBase]
  omega

/-- Two lanes of two words lie at one address only if both agree. -/
theorem byteAddress_inj {i j : Nat} {k l : Lane} : byteAddress i k = byteAddress j l ↔ i = j ∧ k = l := by
  have := k.isLt
  have := l.isLt
  simp only [byteAddress, Fin.ext_iff]
  omega

/-! ### Reading after writing -/

/-- After a write, the address reads as the byte, and every other address as before. -/
theorem Memory.find_put (m : List Host.Cell) (a x : Nat) (b : Byte) :
    Memory.find (Memory.put m a b) x = if x = a then some b else Memory.find m x := by
  induction m with
  | nil => simp [Memory.put, Memory.find, eq_comm]
  | cons c m ih =>
    simp only [Memory.put]
    split
    · simp [Memory.find, eq_comm]
    · split
      · next h => subst h; by_cases hx : c.1 = x <;> simp_all [Memory.find, eq_comm]
      · next h1 h2 =>
        simp only [Memory.find, ih]
        by_cases hx : c.1 = x
        · subst hx; simp [Ne.symm h2]
        · simp [hx]

/-- After a word is written, its lanes read as the word's lanes, and every other address as before. -/
theorem Memory.find_putWord (m : List Host.Cell) (i x : Nat) (w : Word) :
    Memory.find (Memory.putWord m i w) x =
      if x = byteAddress i 3 then some (byteLane w 3)
      else if x = byteAddress i 2 then some (byteLane w 2)
      else if x = byteAddress i 1 then some (byteLane w 1)
      else if x = byteAddress i 0 then some (byteLane w 0)
      else Memory.find m x := by
  simp only [Memory.putWord, Memory.find_put]

theorem Memory.find_putWord_same (m : List Host.Cell) (i : Nat) (w : Word) (k : Lane) :
    Memory.find (Memory.putWord m i w) (byteAddress i k) = some (byteLane w k) := by
  rw [Memory.find_putWord]
  fin_cases k <;> simp [byteAddress_inj]

theorem Memory.find_putWord_other (m : List Host.Cell) {i j : Nat} (w : Word) (k : Lane) (h : j ≠ i) :
    Memory.find (Memory.putWord m i w) (byteAddress j k) = Memory.find m (byteAddress j k) := by
  rw [Memory.find_putWord]
  simp [byteAddress_inj, h]

/-! ### The canonical form -/

/-- What a write lists: the new entry, and entries that were there. -/
theorem Memory.mem_put {m : List Host.Cell} {a : Nat} {b : Byte} {c : Host.Cell}
    (h : c ∈ Memory.put m a b) : c = (a, b) ∨ c ∈ m := by
  induction m with
  | nil => simpa [Memory.put] using h
  | cons d m ih =>
    simp only [Memory.put] at h
    split at h
    · simpa using h
    · split at h
      · rcases List.mem_cons.1 h with h | h
        · exact .inl h
        · exact .inr (List.mem_cons_of_mem _ h)
      · rcases List.mem_cons.1 h with h | h
        · exact .inr (h ▸ List.mem_cons_self)
        · exact (ih h).imp id (List.mem_cons_of_mem _)

/-- Strictly rising addresses, as a pairwise relation. -/
theorem Memory.rising_iff (m : List Host.Cell) : Memory.rising m = true ↔ m.Pairwise (fun c d => c.1 < d.1) := by
  induction m with
  | nil => simp [Memory.rising]
  | cons c m ih =>
    cases m with
    | nil => simp [Memory.rising]
    | cons d m =>
      simp only [Memory.rising, Bool.and_eq_true, decide_eq_true_eq, ih, List.pairwise_cons]
      constructor
      · rintro ⟨hcd, hd, hm⟩
        refine ⟨fun x hx => ?_, hd, hm⟩
        rcases List.mem_cons.1 hx with rfl | hx
        · exact hcd
        · exact Nat.lt_trans hcd (hd x hx)
      · rintro ⟨hc, hd, hm⟩
        exact ⟨hc d List.mem_cons_self, hd, hm⟩

theorem Memory.rising_put {m : List Host.Cell} (h : Memory.rising m = true) (a : Nat) (b : Byte) :
    Memory.rising (Memory.put m a b) = true := by
  rw [Memory.rising_iff] at h ⊢
  induction m with
  | nil => simp [Memory.put]
  | cons c m ih =>
    rw [List.pairwise_cons] at h
    simp only [Memory.put]
    split
    · next hlt =>
      rw [List.pairwise_cons]
      refine ⟨fun x hx => ?_, List.pairwise_cons.2 h⟩
      rcases List.mem_cons.1 hx with rfl | hx
      · exact hlt
      · exact Nat.lt_trans hlt (h.1 x hx)
    · split
      · next heq => exact List.pairwise_cons.2 ⟨fun x hx => by have := h.1 x hx; simp only; omega, h.2⟩
      · next h1 h2 =>
        rw [List.pairwise_cons]
        refine ⟨fun x hx => ?_, ih h.2⟩
        rcases Memory.mem_put hx with rfl | hx
        · simp only; omega
        · exact h.1 x hx

/-- The canonical form, said once. -/
theorem Memory.wf_iff (m : List Host.Cell) :
    Memory.wf m = true ↔ Memory.rising m = true
      ∧ ∀ c ∈ m, inRange c.1 = true ∧ ∀ k, (Memory.find m (byteAddress (wordIndex c.1) k)).isSome = true := by
  simp only [Memory.wf, Memory.unlisted, Bool.and_eq_true, List.all_eq_true]
  constructor
  · rintro ⟨⟨⟨h1, h2⟩, -⟩, h4⟩
    exact ⟨h1, fun c hc => ⟨h2 c hc, fun k => h4 c hc k (List.mem_finRange k)⟩⟩
  · rintro ⟨h1, h2⟩
    exact ⟨⟨⟨h1, fun c hc => (h2 c hc).1⟩, fun _ _ => rfl⟩, fun c hc k _ => (h2 c hc).2 k⟩

@[simp] theorem Memory.wf_nil : Memory.wf [] = true := rfl

/-- A write of a word inside memory keeps the canonical form. -/
theorem Memory.wf_putWord {m : List Host.Cell} (h : Memory.wf m = true) {i : Nat} (hi : i < Params.memWords) (w : Word) :
    Memory.wf (Memory.putWord m i w) = true := by
  rw [Memory.wf_iff] at h ⊢
  constructor
  · exact Memory.rising_put (Memory.rising_put (Memory.rising_put (Memory.rising_put h.1 _ _) _ _) _ _) _ _
  · intro c hc
    have hcase : c ∈ m ∨ ∃ k, c.1 = byteAddress i k := by
      rcases Memory.mem_put hc with rfl | hc
      · exact .inr ⟨3, rfl⟩
      rcases Memory.mem_put hc with rfl | hc
      · exact .inr ⟨2, rfl⟩
      rcases Memory.mem_put hc with rfl | hc
      · exact .inr ⟨1, rfl⟩
      rcases Memory.mem_put hc with rfl | hc
      · exact .inr ⟨0, rfl⟩
      exact .inl hc
    by_cases hw : wordIndex c.1 = i
    · refine ⟨?_, fun k => by rw [hw, Memory.find_putWord_same]; rfl⟩
      rcases hcase with hc | ⟨k, hk⟩
      · exact (h.2 c hc).1
      · rw [hk]; exact inRange_byteAddress hi k
    · rcases hcase with hc | ⟨k, hk⟩
      · refine ⟨(h.2 c hc).1, fun k => ?_⟩
        rw [Memory.find_putWord_other _ _ _ hw]
        exact (h.2 c hc).2 k
      · exact absurd (by rw [hk, wordIndex_byteAddress]) hw

/-! ### `MemRead` and `MemWrite` -/

/-- `MemWrite` writes memory and no other field. -/
theorem memWrite_eq (s : State) (a v : Word) : memWrite s a v = s.setMem (memWrite s a v).mem := by
  unfold memWrite
  split <;> rfl

/-- `MemWrite` keeps the canonical form. -/
theorem memWrite_wf {s : State} (h : Memory.wf s.mem = true) (a v : Word) : Memory.wf (memWrite s a v).mem = true := by
  unfold memWrite
  split
  · next ha => exact Memory.wf_putWord h (wordIndex_lt ha) v
  · exact h

/-- An out-of-range write changes nothing (20_memory.md rule R67). -/
theorem memWrite_outOfRange {s : State} {a : Word} (h : inRange a.toNat = false) (v : Word) : memWrite s a v = s := by
  simp [memWrite, h]

/-- A word of memory depends on the written bytes and the fill alone. -/
theorem memWord_congr {s t : State} (hm : s.mem = t.mem) (hf : s.memFill = t.memFill) (i : Nat) :
    memWord s i = memWord t i := by
  simp [memWord, memLane, hm, hf]

/-- A read depends on the written bytes and the fill alone. -/
theorem memRead_congr {s t : State} (hm : s.mem = t.mem) (hf : s.memFill = t.memFill) (a : Word) :
    memRead s a = memRead t a := by
  simp [memRead, memWord_congr hm hf]

/-- `MEM[j]` after `MEM[i] <- v`. -/
theorem memWord_putWord (s : State) (i j : Nat) (v : Word) :
    memWord (s.setMem (Memory.putWord s.mem i v)) j = if j = i then v else memWord s j := by
  split
  · next h => subst h; simp [memWord, memLane, Memory.find_putWord_same]
  · next h => simp [memWord, memLane, Memory.find_putWord_other _ _ _ h]

/-- `MEM[j]` after `MemWrite(a, 4, v)`. -/
theorem memWord_memWrite (s : State) (a v : Word) (j : Nat) :
    memWord (memWrite s a v) j = if inRange a.toNat = true ∧ j = wordIndex a.toNat then v else memWord s j := by
  unfold memWrite
  split
  · next h => simp [memWord_putWord, h]
  · next h => simp [h]

theorem memRead_inRange {s : State} {a : Word} (h : inRange a.toNat = true) : memRead s a = memWord s (wordIndex a.toNat) := by
  simp [memRead, h]

theorem memRead_outOfRange {s : State} {a : Word} (h : inRange a.toNat = false) : memRead s a = Params.oorWord := by
  simp [memRead, h]

end Sys2Proof.Machine
end

