-- ==== Sys2Proof/Laws/Fsm.lean ====
section
/-! SUPPORT. What each operation of the PP-FSM can do, said once: the pre-checks, raising a fault, the ways out of `FAULT`, the
lookup and its cursor, and the phases. -/

namespace Sys2Proof.Machine

variable {s : State}

/-! ### The pre-checks -/

/-- In a named state other than `FAULT` the pre-checks let the access through (40_framing.md rule R122). -/
theorem ppAccess_named {out : Option Byte} {rule : ProtocolState → State → State} {p : ProtocolState}
    (h : s.state = .named p) (hp : p ≠ .fault) : ppAccess out rule s = rule p s := by
  simp only [ppAccess, h]

/-- In `FAULT` the access does nothing (60_exceptions.md rule R245). -/
theorem ppAccess_fault {out : Option Byte} {rule : ProtocolState → State → State} (h : s.state = .named .fault) :
    ppAccess out rule s = s.reply out := by
  simp only [ppAccess, h]

/-- Where the state register names no state the access raises ProtocolViolation (60_exceptions.md rule R243). -/
theorem ppAccess_unnamed {out : Option Byte} {rule : ProtocolState → State → State} {c : Fin 8}
    (h : s.state = .unnamed c) : ppAccess out rule s = raiseFault 0x02 (0x18 + BitVec.ofNat 8 c.val) out s := by
  simp only [ppAccess, h]
  revert c
  intro c _
  fin_cases c <;> rfl

/-- What holds of raising a fault, of doing nothing, and of the access's rule holds of the access. -/
theorem ppAccess_induction {motive : State → Prop} {out : Option Byte} {rule : ProtocolState → State → State}
    (raised : ∀ info, motive (raiseFault 0x02 info out s)) (inert : motive (s.reply out))
    (ruled : ∀ p, s.state = .named p → p ≠ .fault → motive (rule p s)) : motive (ppAccess out rule s) := by
  unfold ppAccess
  split
  · exact raised _
  · exact inert
  · next p hne h =>
    refine ruled p h fun e => ?_
    subst e
    exact hne rfl

/-! ### Raising a fault, and the ways out -/

/-- Raising a fault, field by field (60_exceptions.md rule R244). -/
theorem raiseFault_eq (code info : Byte) (out : Option Byte) (s : State) :
    raiseFault code info out s
      = { s with state := .named .fault, faultCode := code, faultInfo := info, rdata := out, diag := some ⟨code, info⟩ } :=
  rfl

/-- What a reset keeps: memory, the configuration, and the events still to be served (70_reset_and_hazards.md rule R280). -/
theorem resetBlock_eq (s : State) :
    resetBlock s = { State.attached s.cfg s.memFill.load with
      mem := s.mem, memFill := s.memFill, pending := s.pending } :=
  rfl

/-- A restore, as an update of the power-on values (70_reset_and_hazards.md rule R288). -/
theorem restoreSnapshot_eq (saved : Snapshot) (s : State) :
    restoreSnapshot saved s = { State.attached s.cfg (s.memFill.load + 1) with
      cell07 := saved.cell07, cell10 := saved.cell10, cell11 := saved.cell11, cell14 := saved.cell14
      pending := s.pending } :=
  rfl

/-! ### The lookup and its cursor -/

theorem lookup_sentinel (c : Setup) : lookup c c.tagSentinel = none := by simp [lookup]

/-- A match is an entry of the table, with the tag looked up. -/
theorem lookup_entry {c : Setup} {t : Word} {i : Nat} (h : lookup c t = some i) :
    ∃ e, c.tagTable[i]? = some e ∧ e.tag = t := by
  unfold lookup at h
  split at h
  · cases h
  · obtain ⟨hi, heq, _⟩ := List.findIdx?_eq_some_iff_getElem.1 h
    exact ⟨_, List.getElem?_eq_getElem hi, by simpa using heq⟩

theorem advance_noEntry (h : s.linkEnt = none) : advance s = s := by simp only [advance, h]

theorem advance_entry {i : Nat} {e : TagEntry} (h : s.linkEnt = some i) (he : s.cfg.tagTable[i]? = some e) :
    advance s = { s with linkOff := if s.linkOff < e.payload.length then s.linkOff + 1 else s.linkOff } := by
  unfold advance
  split
  · next hn => simp [h] at hn
  · next j hj =>
    obtain rfl : i = j := by simpa [h] using hj
    simp only [payloadOf, he]
    split
    · simp only [State.setCursor, h]
    · rfl

/-- Advancing the cursor writes `LINK_OFF` and nothing else. -/
theorem advance_eq (s : State) : advance s = { s with linkOff := (advance s).linkOff } := by
  unfold advance
  split
  · rfl
  · next i hi =>
    split
    · simp only [State.setCursor, ← hi]
    · rfl

theorem readAt_noEntry (c : Setup) (o : Nat) : readAt c none o = 0x5A := rfl

theorem readAt_entry {c : Setup} {i : Nat} {e : TagEntry} (he : c.tagTable[i]? = some e) (o : Nat) :
    readAt c (some i) o = e.payload.getD o 0x5A := by
  simp only [readAt, payloadOf, he]
  rfl

/-! ### The phases -/

theorem opcodePhase_poke (s : State) : opcodePhase 0x00 s = (s.goto (.pokeA 0)).reply none := rfl

theorem opcodePhase_peek (s : State) : opcodePhase 0x01 s = (s.goto (.peekA 0)).reply none := rfl

theorem opcodePhase_illegal {b : Byte} (h0 : b ≠ 0x00) (h1 : b ≠ 0x01) (s : State) :
    opcodePhase b s = raiseFault 0x01 b none s := by
  rw [opcodePhase, if_neg (by exact h0), if_neg (by exact h1)]
  rfl

/-- A POKE's address bytes write `ADDR` and the state. -/
theorem pokeAddressPhase_eq (k : Lane) (b : Byte) (s : State) :
    pokeAddressPhase k b s
      = ((s.setAddr (setByte s.addr k b)).goto
          (match nextLane k with | some j => .pokeA j | none => .pokeV 0)).reply none := by
  fin_cases k <;> rfl

/-- A PEEK's address bytes write `ADDR` and the state, and the last one fetches the word. -/
theorem peekAddressPhase_eq (k : Lane) (b : Byte) (s : State) :
    peekAddressPhase k b s
      = match nextLane k with
        | some j => ((s.setAddr (setByte s.addr k b)).goto (.peekA j)).reply none
        | none =>
          (((s.setAddr (setByte s.addr k b)).setVal (memRead s (setByte s.addr k b))).goto (.peekD 0)).reply none := by
  fin_cases k <;> rfl

/-- The value bytes of a POKE write `VAL` and the state, and the last one stores the word at `ADDR`. -/
theorem pokeValuePhase_eq (k : Lane) (b : Byte) (s : State) :
    pokeValuePhase k b s
      = match nextLane k with
        | some j => ((s.setVal (setByte s.val k b)).goto (.pokeV j)).reply none
        | none =>
          (((s.setVal (setByte s.val k b)).setMem (memWrite s s.addr (setByte s.val k b)).mem).goto .idle).reply none := by
  have last : memWrite (s.setVal (setByte s.val 3 b)) s.addr (setByte s.val 3 b)
      = (s.setVal (setByte s.val 3 b)).setMem (memWrite s s.addr (setByte s.val 3 b)).mem := by
    unfold memWrite
    split <;> rfl
  fin_cases k
  · rfl
  · rfl
  · rfl
  · exact congrArg (fun t : State => (t.goto .idle).reply none) last

/-- The tag bytes write `TAG` and the state, and the last one sets the cursor. -/
theorem tagPhase_eq (k : Lane) (b : Byte) (s : State) :
    tagPhase k b s
      = match nextLane k with
        | some j => ((s.setTag (setByte s.tag k b)).goto (.tagT j)).reply none
        | none =>
          (((s.setTag (setByte s.tag k b)).setCursor (lookup s.cfg (setByte s.tag k b)) 0).goto .link).reply none := by
  fin_cases k <;> rfl

/-- A link read writes `LINK_OFF` and the outputs. -/
theorem linkRead_eq (s : State) :
    linkRead s = { s with
      linkOff := (advance s).linkOff, rdata := some (readAt s.cfg s.linkEnt s.linkOff), diag := none } :=
  congrArg (fun t : State => t.reply (some (readAt s.cfg s.linkEnt s.linkOff))) (advance_eq s)

/-- A link skip writes `LINK_OFF` and the outputs. -/
theorem linkSkip_eq (s : State) :
    linkSkip s = { s with linkOff := (advance s).linkOff, rdata := some 0xFF, diag := none } :=
  congrArg (fun t : State => t.reply (some 0xFF)) (advance_eq s)

end Sys2Proof.Machine
end

