-- ==== Sys2Proof/Laws/PerInstr.lean ====
section
/-! SUPPORT. Statements made of every instruction, one lemma for each constructor. -/

namespace Sys2Proof.Laws

/-- A row of spec/opcode_table.json: its width in whole bytes, its mask and its fixed bits. -/
structure TableRow where
  bytes : Nat
  mask : BitVec 16
  fixed : BitVec 16
deriving DecidableEq, Repr

/-- The row of each instruction, copied from spec/opcode_table.json. -/
def tableRow : Instr → TableRow
  | .rdData => ⟨2, 0x3F00, 0x0000⟩
  | .rdNoport01 => ⟨2, 0x3F00, 0x0100⟩
  | .rdSkip => ⟨2, 0x3F00, 0x0200⟩
  | .rdLinkarm => ⟨2, 0x3F00, 0x0300⟩
  | .rdUnmapped04 => ⟨2, 0x3F00, 0x0400⟩
  | .rdUnmapped05 => ⟨2, 0x3F00, 0x0500⟩
  | .rdUnmapped06 => ⟨2, 0x3F00, 0x0600⟩
  | .rdCell07 => ⟨2, 0x3F00, 0x0700⟩
  | .rdUnmapped08 => ⟨2, 0x3F00, 0x0800⟩
  | .rdUnmapped09 => ⟨2, 0x3F00, 0x0900⟩
  | .rdUnmapped0A => ⟨2, 0x3F00, 0x0A00⟩
  | .rdUnmapped0B => ⟨2, 0x3F00, 0x0B00⟩
  | .rdUnmapped0C => ⟨2, 0x3F00, 0x0C00⟩
  | .rdUnmapped0D => ⟨2, 0x3F00, 0x0D00⟩
  | .rdUnmapped0E => ⟨2, 0x3F00, 0x0E00⟩
  | .rdUnmapped0F => ⟨2, 0x3F00, 0x0F00⟩
  | .rdCell10 => ⟨2, 0x3F00, 0x1000⟩
  | .rdCell11 => ⟨2, 0x3F00, 0x1100⟩
  | .rdUnmapped12 => ⟨2, 0x3F00, 0x1200⟩
  | .rdUnmapped13 => ⟨2, 0x3F00, 0x1300⟩
  | .rdCell14 => ⟨2, 0x3F00, 0x1400⟩
  | .rdUnmapped15 => ⟨2, 0x3F00, 0x1500⟩
  | .rdUnmapped16 => ⟨2, 0x3F00, 0x1600⟩
  | .rdUnmapped17 => ⟨2, 0x3F00, 0x1700⟩
  | .rdUnmapped18 => ⟨2, 0x3F00, 0x1800⟩
  | .rdUnmapped19 => ⟨2, 0x3F00, 0x1900⟩
  | .rdUnmapped1A => ⟨2, 0x3F00, 0x1A00⟩
  | .rdUnmapped1B => ⟨2, 0x3F00, 0x1B00⟩
  | .rdUnmapped1C => ⟨2, 0x3F00, 0x1C00⟩
  | .rdUnmapped1D => ⟨2, 0x3F00, 0x1D00⟩
  | .rdUnmapped1E => ⟨2, 0x3F00, 0x1E00⟩
  | .rdUnmapped1F => ⟨2, 0x3F00, 0x1F00⟩
  | .wrNoport00 _ => ⟨2, 0x3F00, 0x2000⟩
  | .wrSerial _ => ⟨2, 0x3F00, 0x2100⟩
  | .wrNoport02 _ => ⟨2, 0x3F00, 0x2200⟩
  | .wrTrigger _ => ⟨2, 0x3F00, 0x2300⟩
  | .wrUnmapped04 _ => ⟨2, 0x3F00, 0x2400⟩
  | .wrUnmapped05 _ => ⟨2, 0x3F00, 0x2500⟩
  | .wrUnmapped06 _ => ⟨2, 0x3F00, 0x2600⟩
  | .wrCell07 _ => ⟨2, 0x3F00, 0x2700⟩
  | .wrUnmapped08 _ => ⟨2, 0x3F00, 0x2800⟩
  | .wrUnmapped09 _ => ⟨2, 0x3F00, 0x2900⟩
  | .wrUnmapped0A _ => ⟨2, 0x3F00, 0x2A00⟩
  | .wrUnmapped0B _ => ⟨2, 0x3F00, 0x2B00⟩
  | .wrUnmapped0C _ => ⟨2, 0x3F00, 0x2C00⟩
  | .wrUnmapped0D _ => ⟨2, 0x3F00, 0x2D00⟩
  | .wrUnmapped0E _ => ⟨2, 0x3F00, 0x2E00⟩
  | .wrUnmapped0F _ => ⟨2, 0x3F00, 0x2F00⟩
  | .wrCell10 _ => ⟨2, 0x3F00, 0x3000⟩
  | .wrCell11 _ => ⟨2, 0x3F00, 0x3100⟩
  | .wrUnmapped12 _ => ⟨2, 0x3F00, 0x3200⟩
  | .wrUnmapped13 _ => ⟨2, 0x3F00, 0x3300⟩
  | .wrCell14 _ => ⟨2, 0x3F00, 0x3400⟩
  | .wrUnmapped15 _ => ⟨2, 0x3F00, 0x3500⟩
  | .wrUnmapped16 _ => ⟨2, 0x3F00, 0x3600⟩
  | .wrUnmapped17 _ => ⟨2, 0x3F00, 0x3700⟩
  | .wrUnmapped18 _ => ⟨2, 0x3F00, 0x3800⟩
  | .wrUnmapped19 _ => ⟨2, 0x3F00, 0x3900⟩
  | .wrUnmapped1A _ => ⟨2, 0x3F00, 0x3A00⟩
  | .wrUnmapped1B _ => ⟨2, 0x3F00, 0x3B00⟩
  | .wrUnmapped1C _ => ⟨2, 0x3F00, 0x3C00⟩
  | .wrUnmapped1D _ => ⟨2, 0x3F00, 0x3D00⟩
  | .wrUnmapped1E _ => ⟨2, 0x3F00, 0x3E00⟩
  | .wrUnmapped1F _ => ⟨2, 0x3F00, 0x3F00⟩
  | .opPoke => ⟨1, 0x00FF, 0x0000⟩
  | .opPeek => ⟨1, 0x00FF, 0x0001⟩
  | .opIllegal0203 _ => ⟨1, 0x00FE, 0x0002⟩
  | .opIllegal0407 _ => ⟨1, 0x00FC, 0x0004⟩
  | .opIllegal080F _ => ⟨1, 0x00F8, 0x0008⟩
  | .opIllegal101F _ => ⟨1, 0x00F0, 0x0010⟩
  | .opIllegal203F _ => ⟨1, 0x00E0, 0x0020⟩
  | .opIllegal407F _ => ⟨1, 0x00C0, 0x0040⟩
  | .opIllegal80FF _ => ⟨1, 0x0080, 0x0080⟩

/-- The number that a string of at most two bytes holds, low byte first. -/
def bytesNumber : List Byte → BitVec 16
  | [] => 0
  | [b] => b.setWidth 16
  | lo :: hi :: _ => hi ++ lo

/-- Do the bytes have the row's width and its fixed bits? -/
def TableRow.accepts (r : TableRow) (bytes : List Byte) : Bool :=
  decide (bytes.length = r.bytes) && bytesNumber bytes &&& r.mask == r.fixed

/-- The bytes of a write hold its BTW: fixed bits `W` and `OFF` under the mask. -/
theorem accepts_write (off : BitVec 5) (b : Byte) :
    (TableRow.mk 2 0x3F00 (0x2000 ||| (off.setWidth 16 <<< 8))).accepts (encodingBytes (.write off b)) = true := by
  simp only [TableRow.accepts, encodingBytes, bytesNumber, List.length_cons, List.length_nil, decide_true, Bool.true_and,
    beq_iff_eq]
  have bytes : ∀ w : BitVec 14,
      ((w.setWidth 16).extractLsb' 8 8 ++ w.extractLsb' 0 8 : BitVec 16) = w.setWidth 16 := by
    intro w
    apply BitVec.eq_of_getLsbD_eq
    intro i hi
    simp only [BitVec.getLsbD_append, BitVec.getLsbD_extractLsb', BitVec.getLsbD_setWidth]
    by_cases h8 : i < 8
    · simp [h8, hi]
    · simp [h8, show i - 8 < 8 by omega, show 8 + (i - 8) = i by omega]
  refine (congrArg (· &&& (0x3F00 : BitVec 16)) (bytes _)).trans ?_
  apply BitVec.eq_of_getLsbD_eq
  intro i hi
  interval_cases i <;> simp [busWord]

namespace EncodedInRow

/-- A well-formed instruction is encoded in its own row of the opcode table. -/
def Statement (i : Instr) : Prop := i.wellFormed = true → (tableRow i).accepts (encode i) = true

theorem rdData : Statement .rdData := by
  unfold Statement
  decide

theorem rdNoport01 : Statement .rdNoport01 := by
  unfold Statement
  decide

theorem rdSkip : Statement .rdSkip := by
  unfold Statement
  decide

theorem rdLinkarm : Statement .rdLinkarm := by
  unfold Statement
  decide

theorem rdUnmapped04 : Statement .rdUnmapped04 := by
  unfold Statement
  decide

theorem rdUnmapped05 : Statement .rdUnmapped05 := by
  unfold Statement
  decide

theorem rdUnmapped06 : Statement .rdUnmapped06 := by
  unfold Statement
  decide

theorem rdCell07 : Statement .rdCell07 := by
  unfold Statement
  decide

theorem rdUnmapped08 : Statement .rdUnmapped08 := by
  unfold Statement
  decide

theorem rdUnmapped09 : Statement .rdUnmapped09 := by
  unfold Statement
  decide

theorem rdUnmapped0A : Statement .rdUnmapped0A := by
  unfold Statement
  decide

theorem rdUnmapped0B : Statement .rdUnmapped0B := by
  unfold Statement
  decide

theorem rdUnmapped0C : Statement .rdUnmapped0C := by
  unfold Statement
  decide

theorem rdUnmapped0D : Statement .rdUnmapped0D := by
  unfold Statement
  decide

theorem rdUnmapped0E : Statement .rdUnmapped0E := by
  unfold Statement
  decide

theorem rdUnmapped0F : Statement .rdUnmapped0F := by
  unfold Statement
  decide

theorem rdCell10 : Statement .rdCell10 := by
  unfold Statement
  decide

theorem rdCell11 : Statement .rdCell11 := by
  unfold Statement
  decide

theorem rdUnmapped12 : Statement .rdUnmapped12 := by
  unfold Statement
  decide

theorem rdUnmapped13 : Statement .rdUnmapped13 := by
  unfold Statement
  decide

theorem rdCell14 : Statement .rdCell14 := by
  unfold Statement
  decide

theorem rdUnmapped15 : Statement .rdUnmapped15 := by
  unfold Statement
  decide

theorem rdUnmapped16 : Statement .rdUnmapped16 := by
  unfold Statement
  decide

theorem rdUnmapped17 : Statement .rdUnmapped17 := by
  unfold Statement
  decide

theorem rdUnmapped18 : Statement .rdUnmapped18 := by
  unfold Statement
  decide

theorem rdUnmapped19 : Statement .rdUnmapped19 := by
  unfold Statement
  decide

theorem rdUnmapped1A : Statement .rdUnmapped1A := by
  unfold Statement
  decide

theorem rdUnmapped1B : Statement .rdUnmapped1B := by
  unfold Statement
  decide

theorem rdUnmapped1C : Statement .rdUnmapped1C := by
  unfold Statement
  decide

theorem rdUnmapped1D : Statement .rdUnmapped1D := by
  unfold Statement
  decide

theorem rdUnmapped1E : Statement .rdUnmapped1E := by
  unfold Statement
  decide

theorem rdUnmapped1F : Statement .rdUnmapped1F := by
  unfold Statement
  decide

theorem wrNoport00 (b : Byte) : Statement (.wrNoport00 b) := fun _ => accepts_write _ b

theorem wrSerial (b : Byte) : Statement (.wrSerial b) := fun _ => accepts_write _ b

theorem wrNoport02 (b : Byte) : Statement (.wrNoport02 b) := fun _ => accepts_write _ b

theorem wrTrigger (b : Byte) : Statement (.wrTrigger b) := fun _ => accepts_write _ b

theorem wrUnmapped04 (b : Byte) : Statement (.wrUnmapped04 b) := fun _ => accepts_write _ b

theorem wrUnmapped05 (b : Byte) : Statement (.wrUnmapped05 b) := fun _ => accepts_write _ b

theorem wrUnmapped06 (b : Byte) : Statement (.wrUnmapped06 b) := fun _ => accepts_write _ b

theorem wrCell07 (b : Byte) : Statement (.wrCell07 b) := fun _ => accepts_write _ b

theorem wrUnmapped08 (b : Byte) : Statement (.wrUnmapped08 b) := fun _ => accepts_write _ b

theorem wrUnmapped09 (b : Byte) : Statement (.wrUnmapped09 b) := fun _ => accepts_write _ b

theorem wrUnmapped0A (b : Byte) : Statement (.wrUnmapped0A b) := fun _ => accepts_write _ b

theorem wrUnmapped0B (b : Byte) : Statement (.wrUnmapped0B b) := fun _ => accepts_write _ b

theorem wrUnmapped0C (b : Byte) : Statement (.wrUnmapped0C b) := fun _ => accepts_write _ b

theorem wrUnmapped0D (b : Byte) : Statement (.wrUnmapped0D b) := fun _ => accepts_write _ b

theorem wrUnmapped0E (b : Byte) : Statement (.wrUnmapped0E b) := fun _ => accepts_write _ b

theorem wrUnmapped0F (b : Byte) : Statement (.wrUnmapped0F b) := fun _ => accepts_write _ b

theorem wrCell10 (b : Byte) : Statement (.wrCell10 b) := fun _ => accepts_write _ b

theorem wrCell11 (b : Byte) : Statement (.wrCell11 b) := fun _ => accepts_write _ b

theorem wrUnmapped12 (b : Byte) : Statement (.wrUnmapped12 b) := fun _ => accepts_write _ b

theorem wrUnmapped13 (b : Byte) : Statement (.wrUnmapped13 b) := fun _ => accepts_write _ b

theorem wrCell14 (b : Byte) : Statement (.wrCell14 b) := fun _ => accepts_write _ b

theorem wrUnmapped15 (b : Byte) : Statement (.wrUnmapped15 b) := fun _ => accepts_write _ b

theorem wrUnmapped16 (b : Byte) : Statement (.wrUnmapped16 b) := fun _ => accepts_write _ b

theorem wrUnmapped17 (b : Byte) : Statement (.wrUnmapped17 b) := fun _ => accepts_write _ b

theorem wrUnmapped18 (b : Byte) : Statement (.wrUnmapped18 b) := fun _ => accepts_write _ b

theorem wrUnmapped19 (b : Byte) : Statement (.wrUnmapped19 b) := fun _ => accepts_write _ b

theorem wrUnmapped1A (b : Byte) : Statement (.wrUnmapped1A b) := fun _ => accepts_write _ b

theorem wrUnmapped1B (b : Byte) : Statement (.wrUnmapped1B b) := fun _ => accepts_write _ b

theorem wrUnmapped1C (b : Byte) : Statement (.wrUnmapped1C b) := fun _ => accepts_write _ b

theorem wrUnmapped1D (b : Byte) : Statement (.wrUnmapped1D b) := fun _ => accepts_write _ b

theorem wrUnmapped1E (b : Byte) : Statement (.wrUnmapped1E b) := fun _ => accepts_write _ b

theorem wrUnmapped1F (b : Byte) : Statement (.wrUnmapped1F b) := fun _ => accepts_write _ b

theorem opPoke : Statement .opPoke := by
  unfold Statement
  decide

theorem opPeek : Statement .opPeek := by
  unfold Statement
  decide

theorem opIllegal0203 : ∀ b, Statement (.opIllegal0203 b) := by
  unfold Statement
  decide

theorem opIllegal0407 : ∀ b, Statement (.opIllegal0407 b) := by
  unfold Statement
  decide

theorem opIllegal080F : ∀ b, Statement (.opIllegal080F b) := by
  unfold Statement
  decide

theorem opIllegal101F : ∀ b, Statement (.opIllegal101F b) := by
  unfold Statement
  decide

theorem opIllegal203F : ∀ b, Statement (.opIllegal203F b) := by
  unfold Statement
  decide

theorem opIllegal407F : ∀ b, Statement (.opIllegal407F b) := by
  unfold Statement
  decide

theorem opIllegal80FF : ∀ b, Statement (.opIllegal80FF b) := by
  unfold Statement
  decide

end EncodedInRow

end Sys2Proof.Laws
end

