-- ==== Sys2Proof/Laws/Step.lean ====
section
/-! SUPPORT. What an access can reach, port decode, and what one step can do. -/

namespace Sys2Proof.Machine

/-! ### Which accesses reach the PP-FSM -/

/-- The five ways into the PP-FSM: two reads, the link arm, the trigger, and a serial byte, written as such or as an opcode
byte. -/
theorem reachesFsm_cases {i : Instr} (h : reachesFsm i = true) :
    i = .rdData ∨ i = .rdSkip ∨ i = .rdLinkarm ∨ (∃ b, i = .wrTrigger b)
      ∨ ∃ b, encoding i = .write 0x01 b ∨ encoding i = .opByte b := by
  cases i <;> simp [reachesFsm, encoding] at h ⊢

/-- An opcode byte means what the serial byte that carries it means. -/
theorem exec_eq_serialByte {i : Instr} {b : Byte} (h : encoding i = .write 0x01 b ∨ encoding i = .opByte b) (s : State) :
    exec i s = .next (serialByte b s) := by
  cases i <;> simp [encoding] at h <;> subst h <;> rfl

/-- An access that does not reach the PP-FSM answers a next state that differs in the register file and the outputs
alone. -/
theorem exec_outside_fsm {i : Instr} (h : reachesFsm i = false) (s : State) :
    ∃ t, exec i s = .next t ∧ t.fsmPart = s.fsmPart ∧ t.pending = s.pending ∧ t.diag = none := by
  cases i <;> simp [reachesFsm, encoding] at h <;> exact ⟨_, rfl, rfl, rfl, rfl⟩

/-- No instruction stops. -/
theorem exec_next (i : Instr) (s : State) : ∃ t, exec i s = .next t := by
  cases i <;> exact ⟨_, rfl⟩

/-! ### Port decode -/

theorem busSelect_inside (base : Nat) (off : BitVec 5) : busSelect base (base + off.toNat) = some off := by
  have := off.isLt
  simp [busSelect, Params.portWindow]
  omega

theorem busSelect_outside {base p : Nat} (h : p < base ∨ base + 0x20 ≤ p) : busSelect base p = none := by
  rw [busSelect, if_neg]
  simp only [Params.portWindow]
  omega

/-! ### One step -/

/-- Everything a step that answers a next state can have done: nothing reached the block, an instruction ran, or a reset, a
restore or an admissible power-on was served. -/
theorem step_next_cases {s t : State} (h : step s = .next t) :
    (s.pending = [] ∧ t = notReached s)
    ∨ (∃ e es, s.pending = e :: es ∧ t = notReached (s.setPending es))
    ∨ (∃ i e es, s.pending = e :: es ∧ exec i (s.setPending es) = .next t)
    ∨ (∃ es, s.pending = .reset :: es ∧ t = resetBlock (s.setPending es))
    ∨ (∃ saved es, s.pending = .restore saved :: es ∧ t = restoreSnapshot saved (s.setPending es))
    ∨ ∃ c es, s.pending = .powerOn c :: es ∧ c.admissible = true ∧ t = powerOnWith c (s.setPending es) := by
  unfold step at h
  split at h
  · next hp =>
    cases h
    exact .inl ⟨hp, rfl⟩
  · next e es hp =>
    right
    cases e <;> simp only [serve] at h
    case reset =>
      cases h
      exact .inr (.inr (.inl ⟨es, hp, rfl⟩))
    case restore saved =>
      cases h
      exact .inr (.inr (.inr (.inl ⟨saved, es, hp, rfl⟩)))
    case powerOn c =>
      split at h
      · next ha =>
        cases h
        exact .inr (.inr (.inr (.inr ⟨c, es, hp, ha, rfl⟩)))
      · cases h
    all_goals
      split at h
      · first
          | cases h
          | exact .inr (.inl ⟨_, _, es, hp, h⟩)
      · cases h
        exact .inl ⟨_, es, hp, rfl⟩

end Sys2Proof.Machine
end

