-- ==== Sys2Proof/Tests/Slice0.lean ====
section
/-! SUPPORT. Tests of one decode or one step each, and a witness for each obligation that has hypotheses. Expected values are
those of spec/95_test_vectors.md (vectors S, V, P) and of the encodings of spec/30_encoding.md rules R91, R93, R98. -/

namespace Sys2Proof.Tests

open Sys2Proof Sys2Proof.Machine

/-- The example configuration of spec/95_test_vectors.md: entries e0, e1, e2 and the sentinel. -/
def exampleSetup : Setup where
  portBase := 0x150
  tagTable := [⟨0x00000001, [0x41, 0x51, 0x50]⟩, ⟨0x12345678, [0x01, 0x02, 0x03, 0x04, 0x05]⟩, ⟨0xCAFEF00D, []⟩]
  tagSentinel := 0xFFFFFFFF

/-- The power-on state of the example configuration, but in state `p`. -/
def inState (p : ProtocolState) : State := { State.attached exampleSetup 0 with state := .named p }

/-- `LINK` with a cursor. -/
def inLink (e : Option Nat) (o : Nat) : State := { inState .link with linkEnt := e, linkOff := o }

/-- A state register that names no state. -/
def inUnnamed (c : Fin 8) : State := { inState .idle with state := .unnamed c }

/-- What `f` shows of the next state, if there is one. -/
def after {α : Type} (o : Host.Outcome State Fault Refusal) (f : State → α) : Option α :=
  match o with
  | .next t => some (f t)
  | .fault _ => none
  | .refused _ => none

/-- One step of `s` on one event. -/
def stepOn (s : State) (e : HostEvent) : Host.Outcome State Fault Refusal := step { s with pending := [e] }

/-! ### Well-formedness: what each check refuses -/

theorem test_wf_refuses_0203 : (Instr.opIllegal0203 0x04).wellFormed = false := by decide
theorem test_wf_refuses_0407 : (Instr.opIllegal0407 0x03).wellFormed = false := by decide
theorem test_wf_refuses_080F : (Instr.opIllegal080F 0x10).wellFormed = false := by decide
theorem test_wf_refuses_101F : (Instr.opIllegal101F 0x0F).wellFormed = false := by decide
theorem test_wf_refuses_203F : (Instr.opIllegal203F 0x40).wellFormed = false := by decide
theorem test_wf_refuses_407F : (Instr.opIllegal407F 0x80).wellFormed = false := by decide
theorem test_wf_refuses_80FF : (Instr.opIllegal80FF 0x7F).wellFormed = false := by decide

/-- A tag twice is refused (20_memory.md rule R82). -/
theorem test_setup_refuses_a_tag_twice :
    ({ exampleSetup with tagTable := [⟨7, [0x01]⟩, ⟨8, []⟩, ⟨7, [0x02]⟩] } : Setup).admissible = false := by decide

/-- The sentinel's tag in the table is refused (20_memory.md rule R82). -/
theorem test_setup_refuses_the_sentinel :
    ({ exampleSetup with tagTable := [⟨7, [0x01]⟩], tagSentinel := 7 } : Setup).admissible = false := by decide

theorem test_setup_admits_the_example : exampleSetup.admissible = true := by decide

/-! ### Decoding: one word for each row, written out from `(W << 13) | (OFF << 8) | DATA` and the opcode bytes -/

theorem test_decode_reads_00_07 :
    [0x0000, 0x0100, 0x0200, 0x0300, 0x0400, 0x0500, 0x0600, 0x0700].map (decodeTableWord 16)
      = [some .rdData, some .rdNoport01, some .rdSkip, some .rdLinkarm, some .rdUnmapped04, some .rdUnmapped05,
        some .rdUnmapped06, some .rdCell07] := by decide

theorem test_decode_reads_08_0F :
    [0x0800, 0x0900, 0x0A00, 0x0B00, 0x0C00, 0x0D00, 0x0E00, 0x0F00].map (decodeTableWord 16)
      = [some .rdUnmapped08, some .rdUnmapped09, some .rdUnmapped0A, some .rdUnmapped0B, some .rdUnmapped0C,
        some .rdUnmapped0D, some .rdUnmapped0E, some .rdUnmapped0F] := by decide

theorem test_decode_reads_10_17 :
    [0x1000, 0x1100, 0x1200, 0x1300, 0x1400, 0x1500, 0x1600, 0x1700].map (decodeTableWord 16)
      = [some .rdCell10, some .rdCell11, some .rdUnmapped12, some .rdUnmapped13, some .rdCell14, some .rdUnmapped15,
        some .rdUnmapped16, some .rdUnmapped17] := by decide

theorem test_decode_reads_18_1F :
    [0x1800, 0x1900, 0x1A00, 0x1B00, 0x1C00, 0x1D00, 0x1E00, 0x1F00].map (decodeTableWord 16)
      = [some .rdUnmapped18, some .rdUnmapped19, some .rdUnmapped1A, some .rdUnmapped1B, some .rdUnmapped1C,
        some .rdUnmapped1D, some .rdUnmapped1E, some .rdUnmapped1F] := by decide

theorem test_decode_writes_00_07 :
    [0x20A5, 0x2178, 0x2212, 0x23FF, 0x2401, 0x2580, 0x263C, 0x275A].map (decodeTableWord 16)
      = [some (.wrNoport00 0xA5), some (.wrSerial 0x78), some (.wrNoport02 0x12), some (.wrTrigger 0xFF),
        some (.wrUnmapped04 0x01), some (.wrUnmapped05 0x80), some (.wrUnmapped06 0x3C),
        some (.wrCell07 0x5A)] := by decide

theorem test_decode_writes_08_0F :
    [0x28A5, 0x2978, 0x2A12, 0x2BFF, 0x2C01, 0x2D80, 0x2E3C, 0x2F5A].map (decodeTableWord 16)
      = [some (.wrUnmapped08 0xA5), some (.wrUnmapped09 0x78), some (.wrUnmapped0A 0x12), some (.wrUnmapped0B 0xFF),
        some (.wrUnmapped0C 0x01), some (.wrUnmapped0D 0x80), some (.wrUnmapped0E 0x3C),
        some (.wrUnmapped0F 0x5A)] := by decide

theorem test_decode_writes_10_17 :
    [0x30A5, 0x3178, 0x3212, 0x33FF, 0x3401, 0x3580, 0x363C, 0x375A].map (decodeTableWord 16)
      = [some (.wrCell10 0xA5), some (.wrCell11 0x78), some (.wrUnmapped12 0x12), some (.wrUnmapped13 0xFF),
        some (.wrCell14 0x01), some (.wrUnmapped15 0x80), some (.wrUnmapped16 0x3C),
        some (.wrUnmapped17 0x5A)] := by decide

theorem test_decode_writes_18_1F :
    [0x38A5, 0x3978, 0x3A12, 0x3BFF, 0x3C01, 0x3D80, 0x3E3C, 0x3F5A].map (decodeTableWord 16)
      = [some (.wrUnmapped18 0xA5), some (.wrUnmapped19 0x78), some (.wrUnmapped1A 0x12), some (.wrUnmapped1B 0xFF),
        some (.wrUnmapped1C 0x01), some (.wrUnmapped1D 0x80), some (.wrUnmapped1E 0x3C),
        some (.wrUnmapped1F 0x5A)] := by decide

theorem test_decode_opcode_bytes :
    [0x00, 0x01, 0x03, 0x04, 0x0F, 0x10, 0x3F, 0x40, 0xFF].map (decodeTableWord 8)
      = [some .opPoke, some .opPeek, some (.opIllegal0203 0x03), some (.opIllegal0407 0x04),
        some (.opIllegal080F 0x0F), some (.opIllegal101F 0x10), some (.opIllegal203F 0x3F),
        some (.opIllegal407F 0x40), some (.opIllegal80FF 0xFF)] := by decide

/-- The DATA bits of a read are ignored (30_encoding.md rule R91). -/
theorem test_decode_read_ignores_data : decodeTableWord 16 0x07FF = some .rdCell07 := by decide

/-- The decoder rejects by name. -/
theorem test_decode_rejects_no_bytes : decode [] = .error .noBytes := rfl
theorem test_decode_rejects_bit_14 : decode [0x00, 0x40] = .error .notFourteenBits := by decide
theorem test_decode_rejects_three_bytes : decode [0x00, 0x00, 0x00] = .error .tooManyBytes := rfl

/-- A BTW row, and an opcode-byte row, run as the first instruction after reset. -/
theorem test_first_instruction_after_reset :
    after (step (State.reset.withFetchWord 16 0x2300)) (fun t => t.state) = some (.named .opcode)
      ∧ after (step (State.reset.withFetchWord 8 0x07)) (fun t => (t.state, t.diag))
        = some (.named .fault, some ⟨0x01, 0x07⟩) := by decide

/-! ### No-op kinds -/

/-- Vectors V18, V20 and V21, in `FAULT`: every no-op read returns FF, every no-op write nothing; the state stays. -/
theorem test_noops_in_fault :
    [Instr.rdNoport01, .rdUnmapped04, .rdUnmapped05, .rdUnmapped06, .rdUnmapped08, .rdUnmapped09, .rdUnmapped0A,
        .rdUnmapped0B, .rdUnmapped0C, .rdUnmapped0D, .rdUnmapped0E, .rdUnmapped0F, .rdUnmapped12, .rdUnmapped13,
        .rdUnmapped15, .rdUnmapped16, .rdUnmapped17, .rdUnmapped18, .rdUnmapped19, .rdUnmapped1A, .rdUnmapped1B,
        .rdUnmapped1C, .rdUnmapped1D, .rdUnmapped1E, .rdUnmapped1F].all (fun i =>
        after (exec i (inState .fault)) (fun t => (t.state, t.rdata)) == some (.named .fault, some 0xFF)) = true
      ∧ [Instr.wrNoport00 0x33, .wrNoport02 0x33, .wrUnmapped04 0x33, .wrUnmapped05 0x33, .wrUnmapped06 0x33,
        .wrUnmapped08 0x33, .wrUnmapped09 0x33, .wrUnmapped0A 0x33, .wrUnmapped0B 0x33, .wrUnmapped0C 0x33,
        .wrUnmapped0D 0x33, .wrUnmapped0E 0x33, .wrUnmapped0F 0x33, .wrUnmapped12 0x33, .wrUnmapped13 0x33,
        .wrUnmapped15 0x33, .wrUnmapped16 0x33, .wrUnmapped17 0x33, .wrUnmapped18 0x33, .wrUnmapped19 0x33,
        .wrUnmapped1A 0x33, .wrUnmapped1B 0x33, .wrUnmapped1C 0x33, .wrUnmapped1D 0x33, .wrUnmapped1E 0x33,
        .wrUnmapped1F 0x33].all (fun i =>
        after (exec i (inState .fault)) (fun t => (t.state, t.rdata)) == some (.named .fault, none)) = true := by decide

/-! ### Framing -/

/-- Vector V3, from a used cursor (V72). -/
theorem test_wrTrigger_arms :
    after (stepOn (inLink (some 1) 2) (.write 0x153 0xA5)) (fun t => (t.state, t.linkEnt, t.linkOff))
      = some (.named .opcode, none, 0) := by decide

/-- Vectors V4 and V13: no re-arm and no abort. -/
theorem test_wrTrigger_ignored :
    after (stepOn (inState .opcode) (.write 0x153 0x00)) (fun t => t.state) = some (.named .opcode)
      ∧ after (stepOn (inState (.pokeA 2)) (.write 0x153 0x00)) (fun t => t.state) = some (.named (.pokeA 2)) := by decide

/-- Vectors V11 (last byte), V48, and V2. -/
theorem test_wrSerial_poke :
    after (stepOn { inState (.pokeA 3) with addr := 0xFF345678 } (.write 0x151 0x12)) (fun t => (t.state, t.addr))
        = some (.named (.pokeV 0), 0x12345678)
      ∧ after (stepOn { inState (.pokeV 3) with addr := 0x80000000 } (.write 0x151 0x99))
        (fun t => (t.state, memWord t 0)) = some (.named .idle, 0x99000000)
      ∧ after (stepOn (inState .idle) (.write 0x151 0x00)) (fun t => (t.state, t.val)) = some (.named .idle, 0) := by decide

/-- Vectors V12 (last byte), V61 (last byte) and V67 (last byte). -/
theorem test_wrSerial_peek_and_tag :
    after (stepOn { inState (.peekA 3) with addr := 0x00FFFFFF } (.write 0x151 0xFF)) (fun t => (t.state, t.addr, t.val))
        = some (.named (.peekD 0), 0xFFFFFFFF, 0x55AA55AA)
      ∧ after (stepOn { inState (.tagT 3) with tag := 0x00000001 } (.write 0x151 0x00))
        (fun t => (t.state, t.tag, t.linkEnt, t.linkOff)) = some (.named .link, 0x00000001, some 0, 0)
      ∧ after (stepOn { inState (.tagT 3) with tag := 0x00563412 } (.write 0x151 0x78))
        (fun t => (t.state, t.tag, t.linkEnt)) = some (.named .link, 0x78563412, none) := by decide

/-- Vectors V5 and V6. -/
theorem test_opPoke : after (stepOn (inState .opcode) (.write 0x151 0x00)) (fun t => t.state) = some (.named (.pokeA 0)) := by
  decide
theorem test_opPeek : after (stepOn (inState .opcode) (.write 0x151 0x01)) (fun t => t.state) = some (.named (.peekA 0)) := by
  decide

/-- Vectors V7, V8, V9 and V90, and one byte of each other illegal row. -/
theorem test_opIllegal :
    ([0x02, 0x07, 0x08, 0x1F, 0x20, 0x7F, 0x80, 0xFF] : List Byte).all (fun b =>
      after (stepOn (inState .opcode) (.write 0x151 b)) (fun t => (t.state, t.faultCode, t.faultInfo, t.diag))
        == some (.named .fault, 0x01, b, some ⟨0x01, b⟩)) = true := by decide

/-- Vectors V38 (last byte) and P3 accesses 9 and 10. -/
theorem test_rdData :
    after (stepOn { inState (.peekD 3) with val := 0x12345678 } (.read 0x150)) (fun t => (t.state, t.rdata))
        = some (.named .idle, some 0x12)
      ∧ after (stepOn (inLink (some 0) 2) (.read 0x150)) (fun t => (t.rdata, t.linkOff)) = some (some 0x50, 3)
      ∧ after (stepOn (inLink (some 0) 3) (.read 0x150)) (fun t => (t.rdata, t.linkOff)) = some (some 0x5A, 3) := by decide

/-- Vectors V1, V15 and V64. -/
theorem test_rdData_other :
    after (stepOn (inState .idle) (.read 0x150)) (fun t => (t.state, t.rdata)) = some (.named .idle, some 0xFF)
      ∧ after (stepOn (inState (.pokeV 1)) (.read 0x150)) (fun t => (t.state, t.rdata)) = some (.named (.pokeV 1), some 0xFF)
      ∧ after (stepOn (inLink (some 2) 0) (.read 0x150)) (fun t => (t.rdata, t.linkOff)) = some (some 0x5A, 0) := by decide

/-- Vectors V42 (first access), V68 (first access) and V69. -/
theorem test_rdSkip :
    after (stepOn (inState (.peekD 0)) (.read 0x152)) (fun t => (t.state, t.rdata)) = some (.named (.peekD 1), some 0xFF)
      ∧ after (stepOn (inLink (some 0) 0) (.read 0x152)) (fun t => (t.rdata, t.linkOff)) = some (some 0xFF, 1)
      ∧ after (stepOn (inLink (some 0) 3) (.read 0x152)) (fun t => (t.rdata, t.linkOff)) = some (some 0xFF, 3) := by decide

/-- Vectors V60, V71 and V14. -/
theorem test_rdLinkarm :
    after (stepOn (inLink (some 1) 2) (.read 0x153)) (fun t => (t.state, t.rdata, t.linkEnt, t.linkOff))
        = some (.named (.tagT 0), some 0xFF, none, 0)
      ∧ after (stepOn (inState (.pokeA 2)) (.read 0x153)) (fun t => (t.state, t.rdata))
        = some (.named (.pokeA 2), some 0xFF) := by decide

/-- Vectors V32 and V33: the last word of memory, and the first address past it. -/
theorem test_store_at_the_edge :
    after (stepOn { inState (.pokeV 3) with addr := 0x801FFFFF, val := 0x00020304 } (.write 0x151 0x01))
        (fun t => memWord t 0x7FFFF) = some 0x01020304
      ∧ after (stepOn { inState (.pokeV 3) with addr := 0x80200000 } (.write 0x151 0x01))
        (fun t => (t.mem, t.diag)) = some ([], none) := by decide

/-! ### The register file -/

/-- Vectors V81 and V83: the read sets bit 0 of what it returns, and does not write it. -/
theorem test_rdCell10 :
    after (stepOn { inState .fault with cell10 := 0x80 } (.read 0x160)) (fun t => (t.rdata, t.cell10))
      = some (some 0x81, 0x80) := by decide
theorem test_wrCell10 : after (stepOn (inState .idle) (.write 0x160 0xFE)) (fun t => t.cell10) = some 0xFE := by decide

/-- Vectors V84, V85, V87 and V47. -/
theorem test_cells :
    after (stepOn (inState .idle) (.write 0x157 0xAB)) (fun t => t.cells) = some (0xAB, 0, 0, 0)
      ∧ after (stepOn (inState .idle) (.write 0x161 0xFF)) (fun t => t.cells) = some (0, 0, 0xFF, 0)
      ∧ after (stepOn (inState .fault) (.write 0x164 0x3C)) (fun t => t.cells) = some (0, 0, 0, 0x3C)
      ∧ after (stepOn { inState .idle with cell07 := 0xAB } (.read 0x157)) (fun t => t.rdata) = some (some 0xAB)
      ∧ after (stepOn { inState (.peekD 1) with cell11 := 0x3C } (.read 0x161)) (fun t => t.rdata) = some (some 0x3C)
      ∧ after (stepOn { inState .fault with cell14 := 0x3C } (.read 0x164)) (fun t => t.rdata) = some (some 0x3C) := by decide

/-! ### Faults, reset, refusals -/

/-- Vectors V94 and V95. -/
theorem test_unnamed_state :
    after (stepOn (inUnnamed 0) (.read 0x150)) (fun t => (t.state, t.rdata, t.diag))
        = some (.named .fault, some 0xFF, some ⟨0x02, 0x18⟩)
      ∧ after (stepOn { inUnnamed 7 with cell07 := 0x5A } (.read 0x157)) (fun t => (t.state, t.rdata, t.diag))
        = some (.unnamed 7, some 0x5A, none) := by decide

/-- Vectors V93, V100 and V102. -/
theorem test_reset :
    after (stepOn { inState (.pokeV 2) with addr := 5, val := 6, cell07 := 0x11, cell14 := 0x44, faultCode := 1 } .reset)
      (fun t => (t.state, t.addr, t.val, t.cells, t.faultCode)) = some (.named .idle, 0, 0, (0, 0, 0, 0), 0) := by decide

/-- Both strobes inside the window, and a table with a tag twice, are refused by name. -/
theorem test_refusals :
    stepOn (inState .idle) (.readWrite 0x150 0x00) = .refused .bothStrobes
      ∧ stepOn (inState .idle) (.powerOn ⟨0, [⟨7, []⟩, ⟨7, []⟩], 0⟩) = .refused .inadmissibleTable := ⟨rfl, rfl⟩

/-- The table of 10_state.md rule R46: code 0x07 is `POKE_V1`, and 0x1F names no state. -/
theorem test_state_code : StateReg.ofCode 0x07 = .named (.pokeV 1) ∧ StateReg.ofCode 0x1F = .unnamed 7 := by decide

/-! ### A witness for the hypotheses of each obligation -/

/-- Word 0 of memory is 0x12345678, as after program P1. -/
def withWord0 (s : State) : State :=
  { s with mem := [(0x80000000, 0x78), (0x80000001, 0x56), (0x80000002, 0x34), (0x80000003, 0x12)] }

/-- The edges of each row of illegal opcode bytes. -/
theorem witness_DecodeOfEncodeIsTheInstruction :
    (Instr.opIllegal0203 0x02).wellFormed = true ∧ (Instr.opIllegal0407 0x07).wellFormed = true
      ∧ (Instr.opIllegal080F 0x08).wellFormed = true ∧ (Instr.opIllegal101F 0x1F).wellFormed = true
      ∧ (Instr.opIllegal203F 0x20).wellFormed = true ∧ (Instr.opIllegal407F 0x7F).wellFormed = true
      ∧ (Instr.opIllegal80FF 0xFF).wellFormed = true ∧ (Instr.wrSerial 0x78).wellFormed = true := by decide

theorem witness_EveryBusWordDecodesToItsRow :
    encoding (.wrCell10 0x80) = encoding (decodeBtw 0x3080) ∧ encoding .rdUnmapped1F = encoding (decodeBtw 0x1FFF) := by
  decide

theorem witness_EveryOpcodeByteDecodesToItsRow :
    (Instr.opIllegal80FF 0x80).wellFormed = true ∧ encoding (.opIllegal80FF 0x80) = .opByte 0x80 := by decide

/-- Each clause, at the last offset; and the two ways a serial byte is decoded in `OPCODE` and outside it. -/
theorem witness_StepRunsTheDecodedInstruction :
    (({ inState .idle with pending := [.write 0x16F 0xA5] } : State).pending
        = .write (exampleSetup.portBase + (0x1F : BitVec 5).toNat) 0xA5 :: []
      ∧ decode (encodingBytes (.write 0x1F 0xA5)) = .ok (.wrUnmapped1F 0xA5))
    ∧ (({ inState .opcode with pending := [.write 0x151 0x02] } : State).pending
        = .write (exampleSetup.portBase + (0x01 : BitVec 5).toNat) 0x02 :: []
      ∧ (inState .opcode).state = .named .opcode
      ∧ decode (encodingBytes (.opByte 0x02)) = .ok (.opIllegal0203 0x02) ∧ (Instr.opIllegal0203 0x02).wellFormed = true)
    ∧ (({ inState .idle with pending := [.read 0x150] } : State).pending
        = .read (exampleSetup.portBase + (0x00 : BitVec 5).toNat) :: []
      ∧ decode (encodingBytes (.read 0x00)) = .ok .rdData) := by decide

/-- The two legal opcode bytes, and the first and the last illegal one. -/
theorem witness_SecondLevelDecodeAgreesWithTheAccess :
    encoding .opPoke = .opByte 0x00 ∧ encoding .opPeek = .opByte 0x01
      ∧ encoding (.opIllegal0203 0x02) = .opByte 0x02 ∧ encoding (.opIllegal80FF 0xFF) = .opByte 0xFF := by decide

/-- The last address below the window and the first one above it. -/
theorem witness_AccessOutsideTheWindowChangesNothing :
    (inState .idle).pending = []
      ∧ 0x14F < (inState .idle).cfg.portBase
      ∧ ({ inState .idle with pending := [.read 0x14F] } : State).pending = .read 0x14F :: []
      ∧ (inState .idle).cfg.portBase + 0x20 ≤ 0x170
      ∧ ({ inState .idle with pending := [.write 0x170 0xFF] } : State).pending = .write 0x170 0xFF :: [] := by decide

/-- A table that satisfies both invariants, and one that has its sentinel's tag. -/
theorem witness_InadmissibleTableIsRefused :
    ({ inState .idle with pending := [.powerOn ⟨0, [⟨7, []⟩], 8⟩] } : State).pending = .powerOn ⟨0, [⟨7, []⟩], 8⟩ :: []
      ∧ (∀ (i j : Nat) (d e : TagEntry), i ≠ j → ([⟨7, []⟩] : List TagEntry)[i]? = some d →
          ([⟨7, []⟩] : List TagEntry)[j]? = some e → d.tag ≠ e.tag)
      ∧ (∀ (i : Nat) (e : TagEntry), ([⟨7, []⟩] : List TagEntry)[i]? = some e → e.tag ≠ 8)
      ∧ ¬(∀ (i : Nat) (e : TagEntry), ([⟨7, []⟩] : List TagEntry)[i]? = some e → e.tag ≠ 7) := by
  refine ⟨rfl, ?_, ?_, fun h => h 0 ⟨7, []⟩ rfl rfl⟩
  · intro i j d e hij hi hj
    rcases i with _ | i <;> rcases j with _ | j <;> simp at hij hi hj
  · intro i e hi
    rcases i with _ | i <;> simp at hi
    subst hi
    decide

theorem witness_OnlyPowerOnChangesTheConfiguration :
    step { inState .idle with pending := [.write 0x153 0x00] } = .next (inState .opcode) := rfl

theorem witness_NoOpAccessesChangeNothing :
    isNoOp (.wrNoport00 0x12) = true ∧ isNoOp .rdNoport01 = true ∧ isNoOp (.wrNoport02 0x12) = true
      ∧ isNoOp .rdUnmapped04 = true ∧ isNoOp (.wrUnmapped1F 0xFF) = true := by decide

theorem witness_PlainCellReadsReturnTheStoredByte :
    exec (.wrCell07 0xAB) (inState .fault) = .next { inState .fault with cell07 := 0xAB }
      ∧ exec (.wrCell11 0xAB) (inState .fault) = .next { inState .fault with cell11 := 0xAB }
      ∧ exec (.wrCell14 0xAB) (inState .fault) = .next { inState .fault with cell14 := 0xAB } := ⟨rfl, rfl, rfl⟩

theorem witness_CellWritesStoreTheWholeByte :
    exec (.wrCell10 0xFE) (inState .idle) = .next { inState .idle with cell10 := 0xFE } := rfl

/-- For each cell, accesses that write every other cell and not it. -/
theorem witness_CellsAreIndependent :
    (∀ i ∈ [Instr.wrCell10 1, .wrCell11 2, .wrCell14 3, .rdCell07, .wrTrigger 0], ∀ c, i ≠ .wrCell07 c)
      ∧ (∀ i ∈ [Instr.wrCell07 1, .wrCell11 2, .wrCell14 3, .rdCell10], ∀ c, i ≠ .wrCell10 c)
      ∧ (∀ i ∈ [Instr.wrCell07 1, .wrCell10 2, .wrCell14 3, .rdCell11], ∀ c, i ≠ .wrCell11 c)
      ∧ (∀ i ∈ [Instr.wrCell07 1, .wrCell10 2, .wrCell11 3, .rdCell14], ∀ c, i ≠ .wrCell14 c)
      ∧ (inState .idle).cell07 = (inState .link).cell07 ∧ (inState .idle).cell10 = (inState .link).cell10
      ∧ (inState .idle).cell11 = (inState .link).cell11 ∧ (inState .idle).cell14 = (inState .link).cell14 := by
  refine ⟨?_, ?_, ?_, ?_, rfl, rfl, rfl, rfl⟩ <;> simp

theorem witness_TriggerArmsTheOpcode :
    (inState .idle).state = .named .idle ∧ (inLink (some 0) 1).state = .named .link
      ∧ (inState .opcode).state = .named .opcode ∧ ProtocolState.opcode ≠ .idle ∧ ProtocolState.opcode ≠ .link
      ∧ (inState .fault).state = .named .fault ∧ ProtocolState.fault ≠ .idle ∧ ProtocolState.fault ≠ .link := by decide

theorem witness_LinkArmEntersTheTagPhase :
    (inState .idle).state = .named .idle ∧ (inLink (some 0) 1).state = .named .link
      ∧ (inState (.tagT 0)).state = .named (.tagT 0) ∧ ProtocolState.tagT 0 ≠ .idle ∧ ProtocolState.tagT 0 ≠ .link := by
  decide

theorem witness_OpcodeByteSelectsTheOperation : (inState .opcode).state = .named .opcode := rfl

/-- One byte of each illegal row, at an edge of the row. -/
theorem witness_OpcodeRowsSelectOrFault :
    (inState .opcode).state = .named .opcode
      ∧ ([(.opIllegal0203 0x02, 0x02), (.opIllegal0407 0x07, 0x07), (.opIllegal080F 0x0F, 0x0F),
          (.opIllegal101F 0x10, 0x10), (.opIllegal203F 0x3F, 0x3F), (.opIllegal407F 0x40, 0x40),
          (.opIllegal80FF 0xFF, 0xFF)] : List (Instr × Byte)).all (fun x =>
          x.1.wellFormed && encoding x.1 == .opByte x.2 && x.2 != 0x00 && x.2 != 0x01) = true := by decide

theorem witness_AddressBytesFillAddr :
    (0 : Lane).val + 1 = (1 : Lane).val ∧ (2 : Lane).val + 1 = (3 : Lane).val
      ∧ (inState (.pokeA 0)).state = .named (.pokeA 0) ∧ (inState (.pokeA 2)).state = .named (.pokeA 2)
      ∧ (inState (.peekA 0)).state = .named (.peekA 0) ∧ (inState (.peekA 2)).state = .named (.peekA 2)
      ∧ (inState (.pokeA 3)).state = .named (.pokeA 3) ∧ (inState (.peekA 3)).state = .named (.peekA 3) := by decide

theorem witness_ValueBytesFillValAndStore :
    (0 : Lane).val + 1 = (1 : Lane).val ∧ (2 : Lane).val + 1 = (3 : Lane).val
      ∧ (inState (.pokeV 0)).state = .named (.pokeV 0) ∧ (inState (.pokeV 2)).state = .named (.pokeV 2)
      ∧ (inState (.pokeV 3)).state = .named (.pokeV 3) := by decide

theorem witness_TagBytesFillTagAndLookUp :
    (0 : Lane).val + 1 = (1 : Lane).val ∧ (2 : Lane).val + 1 = (3 : Lane).val
      ∧ (inState (.tagT 0)).state = .named (.tagT 0) ∧ (inState (.tagT 2)).state = .named (.tagT 2)
      ∧ (inState (.tagT 3)).state = .named (.tagT 3) := by decide

theorem witness_PeekOutputReturnsTheLanes :
    (0 : Lane).val + 1 = (1 : Lane).val ∧ (2 : Lane).val + 1 = (3 : Lane).val
      ∧ (inState (.peekD 0)).state = .named (.peekD 0) ∧ (inState (.peekD 2)).state = .named (.peekD 2)
      ∧ (inState (.peekD 3)).state = .named (.peekD 3) := by decide

theorem witness_PeekSkipConsumesALane :
    (0 : Lane).val + 1 = (1 : Lane).val ∧ (2 : Lane).val + 1 = (3 : Lane).val
      ∧ (inState (.peekD 0)).state = .named (.peekD 0) ∧ (inState (.peekD 2)).state = .named (.peekD 2)
      ∧ (inState (.peekD 3)).state = .named (.peekD 3) := by decide

/-- No entry; the last byte of a payload; the end of a payload; and an empty payload. -/
theorem witness_LinkReadDrainsThePayload :
    ((inLink none 0).state = .named .link ∧ (inLink none 0).linkEnt = none)
      ∧ ((inLink (some 0) 2).linkEnt = some 0 ∧ exampleSetup.tagTable[0]? = some ⟨0x00000001, [0x41, 0x51, 0x50]⟩
        ∧ ([0x41, 0x51, 0x50] : List Byte)[2]? = some 0x50)
      ∧ ((inLink (some 0) 3).linkEnt = some 0 ∧ ([0x41, 0x51, 0x50] : List Byte).length ≤ (inLink (some 0) 3).linkOff)
      ∧ ((inLink (some 2) 0).linkEnt = some 2 ∧ exampleSetup.tagTable[2]? = some ⟨0xCAFEF00D, []⟩
        ∧ ([] : List Byte).length ≤ (inLink (some 2) 0).linkOff) := by decide

theorem witness_LinkSkipAdvancesTheCursor :
    ((inLink none 0).state = .named .link ∧ (inLink none 0).linkEnt = none)
      ∧ ((inLink (some 1) 5).state = .named .link ∧ (inLink (some 1) 5).linkEnt = some 1
        ∧ exampleSetup.tagTable[1]? = some ⟨0x12345678, [0x01, 0x02, 0x03, 0x04, 0x05]⟩) := by decide

/-- `POKE_V1` for the reads and the trigger, and `IDLE`, `PEEK_D3`, `LINK` and `FAULT` for the serial byte. -/
theorem witness_UnmatchedAccessesChangeNothing :
    ((inState (.pokeV 1)).state = .named (.pokeV 1) ∧ (∀ k, ProtocolState.pokeV 1 ≠ .peekD k)
        ∧ ProtocolState.pokeV 1 ≠ .link ∧ ProtocolState.pokeV 1 ≠ .idle)
      ∧ ((inState .idle).state = .named .idle)
      ∧ ((inState (.peekD 3)).state = .named (.peekD 3) ∧ ∃ k, ProtocolState.peekD 3 = .peekD k)
      ∧ ((inState .link).state = .named .link) ∧ ((inState .fault).state = .named .fault) :=
  ⟨⟨rfl, by simp, by simp, by simp⟩, rfl, ⟨rfl, 3, rfl⟩, rfl, rfl⟩

theorem witness_FsmRefinesTheRuleTable :
    (inState (.pokeV 3)).state = .named (.pokeV 3) ∧ btwOffset 0x2199 < 0x04 ∧ btwOffset 0x23FF < 0x04
      ∧ btwOffset 0x0000 < 0x04 := by decide

theorem witness_RuleTableRowsNeverOverlap :
    (⟨.opcode, true, 0x01, .illegal, .fault, .unsupported, .dash⟩ : Rule) ∈ ruleTable
      ∧ (⟨.opcode, true, 0x01, .illegal, .fault, .unsupported, .dash⟩ : Rule).fires .opcode true 0x01 0x02 = true := by
  decide

theorem witness_FaultStateIsInert :
    (inState .fault).state = .named .fault ∧ reachesFsm .rdData = true ∧ reachesFsm (.wrTrigger 0xFF) = true := by decide

theorem witness_OnlyResetLeavesFault :
    ({ inState .fault with pending := [.reset] } : State).state = .named .fault
      ∧ ({ inState .fault with pending := [.reset] } : State).pending = .reset :: [] := by decide

theorem witness_IllegalStateCodeRaisesProtocolViolation :
    (inUnnamed 0).state = .unnamed 0 ∧ (inUnnamed 7).state = .unnamed 7 ∧ reachesFsm .rdLinkarm = true
      ∧ reachesFsm (.wrSerial 0xFF) = true := by decide

/-- The event of an illegal opcode byte, as `exec` answers it (vector V7). -/
theorem witness_OnlyTheTwoCausesRaiseAFault :
    exec (.wrSerial 0x02) (inState .opcode)
      = .next { inState .fault with faultCode := 0x01, faultInfo := 0x02, diag := some ⟨0x01, 0x02⟩ } := rfl

theorem witness_RaisingWritesOnlyTheFaultRegisters :
    exec .rdData (inUnnamed 0)
        = .next { inState .fault with faultCode := 0x02, faultInfo := 0x18, rdata := some 0xFF, diag := some ⟨0x02, 0x18⟩ }
      ∧ ({ inState .fault with diag := some ⟨0x02, 0x18⟩ } : State).diag = some ⟨0x02, 0x18⟩ := ⟨rfl, rfl⟩

theorem witness_SignalsShowTheRaisedFault :
    exec (.opIllegal80FF 0xFF) (inState .opcode)
        = .next { inState .fault with faultCode := 0x01, faultInfo := 0xFF, diag := some ⟨0x01, 0xFF⟩ }
      ∧ ({ inState .fault with faultCode := 0x01, faultInfo := 0xFF, diag := some ⟨0x01, 0xFF⟩ } : State).outputs.diagValid
        = true := ⟨rfl, rfl⟩

theorem witness_ResetEventGivesTheResetValues :
    ({ inState (.pokeV 2) with pending := [.reset] } : State).pending = .reset :: [] := rfl

theorem witness_RestoreIsResetThenTheSavedCells :
    ({ inState .fault with pending := [.restore (inState .idle).snapshot] } : State).pending
      = .restore (inState .idle).snapshot :: [] := rfl

theorem witness_PowerOnGivesThePowerOnValues :
    ({ inState .fault with pending := [.powerOn exampleSetup] } : State).pending = .powerOn exampleSetup :: []
      ∧ exampleSetup.admissible = true
      ∧ 0x80000000 ≤ (0x80000000 : Word).toNat ∧ (0x801FFFFF : Word).toNat < 0x80200000 := by decide

/-- The first and the last address in range, and the addresses beside them. -/
theorem witness_MemReadAndMemWrite :
    (0x80000000 ≤ (0x80000000 : Word).toNat ∧ (0x80000000 : Word).toNat < 0x80200000)
      ∧ (0x80000000 ≤ (0x801FFFFF : Word).toNat ∧ (0x801FFFFF : Word).toNat < 0x80200000)
      ∧ ¬(0x80000000 ≤ (0x7FFFFFFF : Word).toNat ∧ (0x7FFFFFFF : Word).toNat < 0x80200000)
      ∧ ¬(0x80000000 ≤ (0x80200000 : Word).toNat ∧ (0x80200000 : Word).toNat < 0x80200000) := by decide

/-- The last byte of a POKE changes byte 3 of word 0. -/
theorem witness_OnlyACompletedPokeChangesMemory :
    ∃ t, exec (.wrSerial 0x99) { withWord0 (inState (.pokeV 3)) with addr := 0x80000000 } = .next t
      ∧ memByte t 0x80000003 ≠ memByte { withWord0 (inState (.pokeV 3)) with addr := 0x80000000 } 0x80000003 :=
  ⟨_, rfl, by decide⟩

theorem witness_FourSerialBytesAssembleTheOperand :
    (inState (.pokeA 0)).state = .named (.pokeA 0) ∧ (inState (.peekA 0)).state = .named (.peekA 0)
      ∧ (inState (.tagT 0)).state = .named (.tagT 0) ∧ (inState (.pokeV 0)).state = .named (.pokeV 0) := by decide

/-- In the middle of a PEEK of word 0, with the last data byte asked for. -/
theorem witness_EveryStepKeepsTheInvariant :
    State.Inv { withWord0 (inState (.peekD 3)) with addr := 0x80000000, val := 0x12345678, pending := [.read 0x150] }
      ∧ step { withWord0 (inState (.peekD 3)) with addr := 0x80000000, val := 0x12345678, pending := [.read 0x150] }
        = .next { withWord0 (inState .idle) with addr := 0x80000000, val := 0x12345678, rdata := some 0x12 } := by
  refine ⟨⟨⟨_, rfl⟩, by decide, by decide, rfl, fun _ => ⟨rfl, rfl⟩, .inl (by decide), by decide, fun _ _ => by decide, ?_⟩, rfl⟩
  intro d h
  cases h

/-- At the end of entry e1's payload, which is the longest of the table. -/
theorem witness_CursorStaysInItsRange :
    State.Inv (inLink (some 1) 5) ∧ (inLink (some 1) 5).linkEnt = some 1 ∧ exampleSetup.maxPayload = 5 := by
  refine ⟨⟨⟨_, rfl⟩, by decide, by decide, ⟨_, rfl, by decide⟩, fun h => absurd rfl h, .inl (by decide), by decide, ?_, ?_⟩,
    rfl, by decide⟩
  · intro k h
    cases h
  · intro d h
    cases h

theorem witness_EveryStepKeepsMemoryCanonical :
    Memory.wf (withWord0 (inState .idle)).mem = true
      ∧ step { withWord0 (inState .idle) with pending := [.write 0x153 0x00] } = .next (withWord0 (inState .opcode)) :=
  ⟨by decide, rfl⟩

/-- The last entry of an admissible table. -/
theorem witness_LookupFindsTheFirstEntry :
    exampleSetup.admissible = true ∧ exampleSetup.tagTable[2]? = some ⟨0xCAFEF00D, []⟩ := by decide

theorem witness_WholePokeStoresTheWord :
    (inState .idle).state = .named .idle
      ∧ ((inState .idle).issue (pokeAccesses 0x801FFFFF 0x01020304)).pending
        = (pokeAccesses 0x801FFFFF 0x01020304).map (eventOfBtw exampleSetup.portBase) ++ [] := by decide

theorem witness_WholePeekReturnsTheWord :
    (inLink (some 0) 1).state = .named .link
      ∧ ((inLink (some 0) 1).issue (peekAccesses 0x80000000)).pending
        = (peekAccesses 0x80000000).map (eventOfBtw exampleSetup.portBase) ++ [] := by decide

/-- Another byte of the last word; and an address past memory. -/
theorem witness_PokeThenPeekReturnsThePokedWord :
    (inState .idle).state = .named .idle
      ∧ ((inState .idle).issue (pokeAccesses 0x801FFFFF 5 ++ peekAccesses 0x801FFFFC)).pending
        = (pokeAccesses 0x801FFFFF 5 ++ peekAccesses 0x801FFFFC).map (eventOfBtw exampleSetup.portBase) ++ []
      ∧ 0x80000000 ≤ (0x801FFFFF : Word).toNat ∧ (0x801FFFFF : Word).toNat < 0x80200000
      ∧ ((0x801FFFFC : Word).toNat - 0x80000000) / 4 = ((0x801FFFFF : Word).toNat - 0x80000000) / 4
      ∧ 0x80000000 ≤ (0x801FFFFC : Word).toNat
      ∧ ¬(0x80000000 ≤ (0x80200000 : Word).toNat ∧ (0x80200000 : Word).toNat < 0x80200000) := by decide

/-- The tag of entry e1 (vector V63), the empty entry's tag, and the sentinel. -/
theorem witness_WholeLinkQueryReturnsThePayload :
    (inState .idle).state = .named .idle
      ∧ ((inState .idle).issue (linkAccesses 0x12345678 7)).pending
        = (linkAccesses 0x12345678 7).map (eventOfBtw exampleSetup.portBase) ++ []
      ∧ lookup exampleSetup 0x12345678 = some 1
      ∧ exampleSetup.tagTable[1]? = some ⟨0x12345678, [0x01, 0x02, 0x03, 0x04, 0x05]⟩
      ∧ lookup exampleSetup 0xCAFEF00D = some 2 ∧ lookup exampleSetup 0xFFFFFFFF = none := by decide

theorem witness_RegisterFileIsIndependentOfTheFsm :
    accessesCell .rdCell07 = true ∧ accessesCell (.wrCell14 0xFF) = true := by decide

/-- Two states that agree in the state register alone. -/
theorem witness_SuccessorDependsOnStateAndAccessOnly :
    ({ inState .idle with addr := 5, cell07 := 0xFF } : State).state = (inState .idle).state
      ∧ exec (.wrTrigger 0) { inState .idle with addr := 5, cell07 := 0xFF }
        = .next { inState .opcode with addr := 5, cell07 := 0xFF }
      ∧ exec (.wrTrigger 0) (inState .idle) = .next (inState .opcode) := ⟨rfl, rfl, rfl⟩

/-- In the middle of a POKE's address, where vector V13 tries the trigger; and in `OPCODE`. -/
theorem witness_NoAccessAbortsAnOperation :
    (inState (.pokeA 2)).state = .named (.pokeA 2)
      ∧ exec (.wrTrigger 0) (inState (.pokeA 2)) = .next (inState (.pokeA 2))
      ∧ nextPhase (.pokeA 2) = some (.pokeA 3)
      ∧ exec (.wrTrigger 0) (inState .opcode) = .next (inState .opcode) := ⟨rfl, rfl, rfl, rfl⟩

/-- An access (vector V72), a reset event (vector V74), and a step that serves each. -/
theorem witness_LinkIsLeftOnlyByTriggerArmOrReset :
    ((inLink (some 1) 2).state = .named .link ∧ exec (.wrTrigger 0) (inLink (some 1) 2) = .next (inState .opcode))
      ∧ (({ inLink (some 0) 0 with pending := [.reset] } : State).state = .named .link
        ∧ ({ inLink (some 0) 0 with pending := [.reset] } : State).pending = .reset :: [])
      ∧ stepOn (inLink (some 0) 0) .reset = .next (inState .idle)
      ∧ stepOn (inLink (some 1) 2) (.write 0x153 0x00) = .next (inState .opcode) :=
  ⟨⟨rfl, rfl⟩, ⟨rfl, rfl⟩, rfl, rfl⟩

theorem witness_OnlyTheseReadsHaveSideEffects :
    (inState (.peekD 3)).state = .named (.peekD 3) ∧ returnsByte .rdData = true
      ∧ exec .rdData (inState (.peekD 3)) = .next { inState .idle with rdata := some 0x00 }
      ∧ ({ inState .idle with rdata := some 0x00 } : State).blockPart ≠ (inState (.peekD 3)).blockPart :=
  ⟨rfl, rfl, rfl, by decide⟩

theorem witness_EveryReadReturnsOneByte :
    exec .rdData (inState .idle) = .next { inState .idle with rdata := some 0xFF } := rfl

end Sys2Proof.Tests
end

section
/-! PROOFS. Family 20_memory.md: the configuration-time check (rule R82), and `MemRead` and `MemWrite` (rules R66, R67). -/

namespace Sys2Proof

/-! ### The configuration-time check -/

/-- The first invariant of 20_memory.md rule R82, as a pairwise relation. -/
theorem tagsDistinct_iff_pairwise (es : List TagEntry) :
    tagsDistinct es = true ↔ es.Pairwise fun d e => d.tag ≠ e.tag := by
  induction es with
  | nil => simp [tagsDistinct]
  | cons e es ih =>
    simp only [tagsDistinct, Bool.and_eq_true, List.all_eq_true, bne_iff_ne, List.pairwise_cons, ih]
    exact and_congr_left' (forall₂_congr fun _ _ => ne_comm)

/-- The first invariant of 20_memory.md rule R82, by the entries' indices. -/
theorem tagsDistinct_iff (es : List TagEntry) :
    tagsDistinct es = true
      ↔ ∀ (i j : Nat) (d e : TagEntry), i ≠ j → es[i]? = some d → es[j]? = some e → d.tag ≠ e.tag := by
  rw [tagsDistinct_iff_pairwise, List.pairwise_iff_getElem]
  constructor
  · intro h i j d e hij hd he
    obtain ⟨hi, rfl⟩ := List.getElem?_eq_some_iff.1 hd
    obtain ⟨hj, rfl⟩ := List.getElem?_eq_some_iff.1 he
    rcases Nat.lt_or_gt_of_ne hij with hlt | hgt
    · exact h i j hi hj hlt
    · exact (h j i hj hi hgt).symm
  · intro h i j hi hj hlt
    exact h i j _ _ (Nat.ne_of_lt hlt) (List.getElem?_eq_getElem hi) (List.getElem?_eq_getElem hj)

/-- The second invariant of 20_memory.md rule R82, by the entries' indices. -/
theorem sentinelAbsent_iff (es : List TagEntry) (t : Word) :
    sentinelAbsent es t = true ↔ ∀ (i : Nat) (e : TagEntry), es[i]? = some e → e.tag ≠ t := by
  simp only [sentinelAbsent, List.all_eq_true, bne_iff_ne, List.mem_iff_getElem?, forall_exists_index]
  exact forall_comm

/-- The check of 20_memory.md rule R82 passes exactly when both invariants hold. -/
theorem Setup.admissible_iff (c : Setup) :
    c.admissible = true
      ↔ (∀ (i j : Nat) (d e : TagEntry), i ≠ j → c.tagTable[i]? = some d → c.tagTable[j]? = some e → d.tag ≠ e.tag)
        ∧ ∀ (i : Nat) (e : TagEntry), c.tagTable[i]? = some e → e.tag ≠ c.tagSentinel := by
  rw [Setup.admissible, Bool.and_eq_true, tagsDistinct_iff, sentinelAbsent_iff]

end Sys2Proof

namespace Sys2Proof.Machine

@[simp] theorem powerOnWith_cfg (c : Setup) (s : State) : (powerOnWith c s).cfg = c := rfl

/-- The step that serves a power-on runs the configuration-time check. -/
theorem step_powerOn {s : State} {es : List HostEvent} {c : Setup} (h : s.pending = .powerOn c :: es) :
    step s = if c.admissible then .next (powerOnWith c (s.setPending es)) else .refused .inadmissibleTable := by
  simp only [step, h, serve]

/-- Settles O10: both outcomes are the two branches of `step_powerOn`, whose condition `Setup.admissible_iff` spells out. -/
theorem inadmissibleTableIsRefused : Obligations.InadmissibleTableIsRefused := by
  intro s es c hp distinct noSentinel
  have hcheck : c.admissible = true ↔ distinct ∧ noSentinel := Setup.admissible_iff c
  rw [step_powerOn hp, ← hcheck]
  constructor
  · intro ha
    exact ⟨_, if_pos ha, powerOnWith_cfg c _⟩
  · intro ha
    exact if_neg ha

/-! ### `MemRead` and `MemWrite` -/

/-- Settles O41: `inRange` decides which clause applies, and each is the law of Laws/Memory.lean for it. -/
theorem memReadAndMemWrite : Obligations.MemReadAndMemWrite := by
  intro s a v
  rw [← inRange_iff]
  constructor
  · intro ha
    refine ⟨memRead_inRange ha, fun i => ?_, memWrite_eq s a v⟩
    rw [memWord_memWrite, wordIndex, Params.memBase]
    simp only [ha, true_and]
  · intro ha
    have hout : inRange a.toNat = false := Bool.eq_false_iff.2 ha
    exact ⟨memRead_outOfRange hout, memWrite_outOfRange hout v⟩

end Sys2Proof.Machine
end

section
/-! PROOFS. Family 30_encoding.md: four serial bytes assemble an operand (rule R95). -/

namespace Sys2Proof.Machine

/-! ### A serial byte in an operand phase -/

variable {s : State} {k : Lane}

/-- `POKE_Ak` takes a serial byte in the address phase of a POKE (40_framing.md rules R122, R125). -/
theorem serialByte_pokeA (h : s.state = .named (.pokeA k)) (b : Byte) : serialByte b s = pokeAddressPhase k b s :=
  ppAccess_named h (by simp)

/-- `PEEK_Ak` takes a serial byte in the address phase of a PEEK (40_framing.md rules R122, R125). -/
theorem serialByte_peekA (h : s.state = .named (.peekA k)) (b : Byte) : serialByte b s = peekAddressPhase k b s :=
  ppAccess_named h (by simp)

/-- `TAG_Tk` takes a serial byte in the tag phase (40_framing.md rules R122, R125). -/
theorem serialByte_tagT (h : s.state = .named (.tagT k)) (b : Byte) : serialByte b s = tagPhase k b s :=
  ppAccess_named h (by simp)

/-- `POKE_Vk` takes a serial byte in the value phase of a POKE (40_framing.md rules R122, R125). -/
theorem serialByte_pokeV (h : s.state = .named (.pokeV k)) (b : Byte) : serialByte b s = pokeValuePhase k b s :=
  ppAccess_named h (by simp)

/-- The states `phase 0` to `phase 3` assemble the operand in `acc`: a serial byte in `phase k` replaces lane k and goes on
to the next of them, and to `done` after the last (30_encoding.md rule R95). -/
def AssemblesOperand (phase : Lane → ProtocolState) (acc : State → Word) (done : ProtocolState) : Prop :=
  ∀ (k : Lane) (b : Byte) (s : State), s.state = .named (phase k) →
    acc (serialByte b s) = setByte (acc s) k b
      ∧ (serialByte b s).state = .named ((nextLane k).elim done phase)

theorem pokeA_assemblesOperand : AssemblesOperand .pokeA State.addr (.pokeV 0) := by
  intro k b s h
  rw [serialByte_pokeA h, pokeAddressPhase_eq]
  fin_cases k <;> exact ⟨rfl, rfl⟩

theorem peekA_assemblesOperand : AssemblesOperand .peekA State.addr (.peekD 0) := by
  intro k b s h
  rw [serialByte_peekA h, peekAddressPhase_eq]
  fin_cases k <;> exact ⟨rfl, rfl⟩

theorem tagT_assemblesOperand : AssemblesOperand .tagT State.tag .link := by
  intro k b s h
  rw [serialByte_tagT h, tagPhase_eq]
  fin_cases k <;> exact ⟨rfl, rfl⟩

theorem pokeV_assemblesOperand : AssemblesOperand .pokeV State.val .idle := by
  intro k b s h
  rw [serialByte_pokeV h, pokeValuePhase_eq]
  fin_cases k <;> exact ⟨rfl, rfl⟩

/-! ### Four serial bytes -/

/-- A `WR_SERIAL` at the head of a list of instructions always completes. -/
theorem execAll_wrSerial (b : Byte) (is : List Instr) (s : State) :
    execAll (.wrSerial b :: is) s = execAll is (serialByte b s) := rfl

/-- Four serial bytes from the first of an operand's states leave the assembled bytes in its accumulator: each of the four
lanes has been replaced once (`setByte_four`). -/
theorem AssemblesOperand.execAll_four {phase : Lane → ProtocolState} {acc : State → Word} {done : ProtocolState}
    (hphase : AssemblesOperand phase acc done) (b0 b1 b2 b3 : Byte) (h0 : s.state = .named (phase 0)) :
    ∃ t, execAll [.wrSerial b0, .wrSerial b1, .wrSerial b2, .wrSerial b3] s = .next t
      ∧ acc t = assemble b0 b1 b2 b3 ∧ t.state = .named done := by
  simp only [execAll_wrSerial]
  obtain ⟨lane0, h1⟩ := hphase 0 b0 s h0
  obtain ⟨lane1, h2⟩ := hphase 1 b1 _ h1
  obtain ⟨lane2, h3⟩ := hphase 2 b2 _ h2
  obtain ⟨lane3, h4⟩ := hphase 3 b3 _ h3
  refine ⟨_, rfl, ?_, h4⟩
  rw [lane3, lane2, lane1, lane0, setByte_four]

/-- Settles O43: each of the four phases assembles its operand, so `AssemblesOperand.execAll_four` gives each clause. -/
theorem fourSerialBytesAssembleTheOperand : Obligations.FourSerialBytesAssembleTheOperand := by
  intro s b0 b1 b2 b3
  exact ⟨pokeA_assemblesOperand.execAll_four b0 b1 b2 b3, peekA_assemblesOperand.execAll_four b0 b1 b2 b3,
    tagT_assemblesOperand.execAll_four b0 b1 b2 b3, pokeV_assemblesOperand.execAll_four b0 b1 b2 b3⟩

end Sys2Proof.Machine
end

section
/-! PROOFS. Family 40_framing.md: the opcode phase (rule R126), and the address phase with the PEEK fetch (rule R127). -/

namespace Sys2Proof.Machine

variable {s : State} {k j : Lane}

/-- `WR_SERIAL` always completes. -/
theorem exec_wrSerial (b : Byte) (s : State) : exec (.wrSerial b) s = .next (serialByte b s) :=
  exec_eq_serialByte (.inl rfl) s

/-! ### The opcode phase -/

/-- `OPCODE` takes a serial byte as an opcode (40_framing.md rules R122, R125). -/
theorem serialByte_opcode (h : s.state = .named .opcode) (b : Byte) : serialByte b s = opcodePhase b s :=
  ppAccess_named h (by simp)

/-- Settles O19: one law of the opcode phase for each of the three branches. -/
theorem opcodeByteSelectsTheOperation : Obligations.OpcodeByteSelectsTheOperation := by
  intro s b h
  rw [exec_wrSerial, serialByte_opcode h]
  refine congrArg Host.Outcome.next ?_
  split_ifs with h0 h1
  · subst h0
    exact opcodePhase_poke s
  · subst h1
    exact opcodePhase_peek s
  · rw [opcodePhase_illegal h0 h1, raiseFault_eq]

/-! ### The address phase -/

/-- A lane that has a successor is followed by it. -/
theorem nextLane_of_succ (h : k.val + 1 = j.val) : nextLane k = some j := by
  revert k j
  decide

/-- An address byte of a POKE before the last (40_framing.md rule R127). -/
theorem pokeAddressPhase_of_next (h : nextLane k = some j) (b : Byte) (s : State) :
    pokeAddressPhase k b s = ((s.setAddr (setByte s.addr k b)).goto (.pokeA j)).reply none := by
  rw [pokeAddressPhase_eq, h]

/-- An address byte of a PEEK before the last (40_framing.md rule R127). -/
theorem peekAddressPhase_of_next (h : nextLane k = some j) (b : Byte) (s : State) :
    peekAddressPhase k b s = ((s.setAddr (setByte s.addr k b)).goto (.peekA j)).reply none := by
  rw [peekAddressPhase_eq, h]

/-- The last address byte of a POKE leads to the value phase (40_framing.md rule R127). -/
theorem pokeAddressPhase_last (b : Byte) (s : State) :
    pokeAddressPhase 3 b s = ((s.setAddr (setByte s.addr 3 b)).goto (.pokeV 0)).reply none :=
  pokeAddressPhase_eq 3 b s

/-- The last address byte of a PEEK fetches the word (40_framing.md rule R127, 41_poke_peek.md rule R152). -/
theorem peekAddressPhase_last (b : Byte) (s : State) :
    peekAddressPhase 3 b s
      = (((s.setAddr (setByte s.addr 3 b)).setVal (memRead s (setByte s.addr 3 b))).goto (.peekD 0)).reply none :=
  peekAddressPhase_eq 3 b s

/-- The last 32-bit address lies past the end of backing memory (20_memory.md rule R64). -/
theorem inRange_lastAddress : inRange (0xFFFFFFFF : Word).toNat = false := by decide

/-- Settles O21: the four lanes by `setByte_four`, the last address by `inRange_lastAddress`, and each address byte by the law
of its phase. -/
theorem addressBytesFillAddr : Obligations.AddressBytesFillAddr := by
  intro s b
  rw [exec_wrSerial]
  refine ⟨fun w a0 a1 a2 => setByte_four w a0 a1 a2 b, memRead_outOfRange inRange_lastAddress, fun k j hkj => ?_, ?_, ?_⟩
  · have hnext : nextLane k = some j := nextLane_of_succ hkj
    constructor
    · intro h
      rw [serialByte_pokeA h, pokeAddressPhase_of_next hnext]
      rfl
    · intro h
      rw [serialByte_peekA h, peekAddressPhase_of_next hnext]
      rfl
  · intro h
    rw [serialByte_pokeA h, pokeAddressPhase_last]
    rfl
  · intro h
    rw [serialByte_peekA h, peekAddressPhase_last]
    rfl

end Sys2Proof.Machine
end

section
/-! PROOFS. Family 41_poke_peek.md: the value phase of a POKE (rule R150), and the output of a PEEK (rule R153). -/

namespace Sys2Proof

/-! ### The two bus words -/

/-- The BTW of `WR_SERIAL` (30_encoding.md rules R91, R98). -/
theorem decodeBtw_wrSerial (b : Byte) : decodeBtw (0x2100#14 ||| b.setWidth 14) = .wrSerial b :=
  decodeBtw_write 0x01 b

/-- The BTW of `RD_DATA`, whatever its DATA bits (30_encoding.md rules R91, R98). -/
theorem decodeBtw_rdData (x : Byte) : decodeBtw (0x0000#14 ||| x.setWidth 14) = .rdData :=
  decodeBtw_read 0x00 x

end Sys2Proof

namespace Sys2Proof.Machine

variable {s : State} {k j : Lane}

/-! ### The value phase -/

/-- A value byte before the last (41_poke_peek.md rule R150). -/
theorem pokeValuePhase_of_next (h : nextLane k = some j) (b : Byte) (s : State) :
    pokeValuePhase k b s = ((s.setVal (setByte s.val k b)).goto (.pokeV j)).reply none := by
  rw [pokeValuePhase_eq, h]

/-- The last value byte stores the word at `ADDR` (41_poke_peek.md rule R150). -/
theorem pokeValuePhase_last (b : Byte) (s : State) :
    pokeValuePhase 3 b s
      = (((s.setVal (setByte s.val 3 b)).setMem (memWrite s s.addr (setByte s.val 3 b)).mem).goto .idle).reply none :=
  pokeValuePhase_eq 3 b s

/-- The bytes that `MemWrite` leaves written, by the address's number (20_memory.md rules R64, R65, R67). -/
theorem memWrite_mem (s : State) (a v : Word) :
    (memWrite s a v).mem
      = if 0x80000000 ≤ a.toNat ∧ a.toNat < 0x80200000 then
          Memory.putWord s.mem ((a.toNat - 0x80000000) / 4) v
        else s.mem := by
  by_cases ha : inRange a.toNat = true
  · rw [if_pos ((inRange_iff _).1 ha), memWrite, if_pos ha, State.setMem_mem, wordIndex, Params.memBase]
  · rw [if_neg (mt (inRange_iff _).2 ha), memWrite, if_neg ha]

/-- Settles O22: each value byte by the law of its phase; the last one's store is a `MemWrite` (`memWrite_mem`), so memory
afterwards reads as `memWord_memWrite` says. -/
theorem valueBytesFillValAndStore : Obligations.ValueBytesFillValAndStore := by
  intro s b
  refine ⟨decodeBtw_wrSerial b, fun k j hkj h => ?_, fun h => ?_⟩
  · rw [exec_wrSerial, serialByte_pokeV h, pokeValuePhase_of_next (nextLane_of_succ hkj)]
    rfl
  · intro m
    have stored : (memWrite s s.addr (setByte s.val 3 b)).mem = m := memWrite_mem s s.addr (setByte s.val 3 b)
    constructor
    · rw [exec_wrSerial, serialByte_pokeV h, pokeValuePhase_last, stored]
      rfl
    · intro i
      rw [← stored, ← memWrite_eq, memWord_memWrite, wordIndex, Params.memBase]
      simp only [inRange_iff]

/-! ### The output of a PEEK -/

/-- `RD_DATA` passes the pre-checks and then follows the rule of the state (40_framing.md rules R122, R134). -/
theorem exec_rdData (s : State) : exec .rdData s = .next (ppAccess (some 0xFF) dataRule s) := rfl

/-- `PEEK_Dk` answers `RD_DATA` with data byte k (40_framing.md rule R134). -/
theorem exec_rdData_peekD (h : s.state = .named (.peekD k)) : exec .rdData s = .next (peekOutput k s) := by
  rw [exec_rdData, ppAccess_named h (by simp)]
  rfl

/-- A data byte before the last is followed by the next lane's (41_poke_peek.md rules R153, R154). -/
theorem afterPeekByte_of_next (h : nextLane k = some j) : afterPeekByte k = .peekD j := by
  rw [afterPeekByte, h]

/-- The last data byte ends the PEEK (41_poke_peek.md rules R153, R154). -/
theorem afterPeekByte_last : afterPeekByte 3 = .idle := rfl

/-- Settles O24: a data byte is the output of its lane, and `afterPeekByte` says which state comes next. -/
theorem peekOutputReturnsTheLanes : Obligations.PeekOutputReturnsTheLanes := by
  intro s x
  refine ⟨decodeBtw_rdData x, fun k j hkj h => ?_, fun h => ?_⟩
  · rw [exec_rdData_peekD h, peekOutput, afterPeekByte_of_next (nextLane_of_succ hkj)]
    rfl
  · rw [exec_rdData_peekD h, peekOutput, afterPeekByte_last]
    rfl

end Sys2Proof.Machine
end

section
/-! PROOFS. Family 42_tag_link.md: the tag phase (rule R182), the lookup (rule R183), and the link read (rules R184-R186). -/

namespace Sys2Proof.Machine

variable {s : State} {k j : Lane} {c : Setup} {t : Word} {i : Nat} {e : TagEntry}

/-! ### The lookup -/

/-- A tag other than the sentinel is searched for in table order (42_tag_link.md rule R183). -/
theorem lookup_of_ne_sentinel (h : t ≠ c.tagSentinel) : lookup c t = c.tagTable.findIdx? (·.tag == t) := if_neg h

/-- A match is the first entry with the tag, and the tag is not the sentinel. -/
theorem lookup_eq_some_iff :
    lookup c t = some i
      ↔ t ≠ c.tagSentinel ∧ (∃ e, c.tagTable[i]? = some e ∧ e.tag = t)
        ∧ ∀ (j : Nat) (e : TagEntry), j < i → c.tagTable[j]? = some e → e.tag ≠ t := by
  by_cases ht : t = c.tagSentinel
  · subst ht
    simp [lookup_sentinel]
  · rw [lookup_of_ne_sentinel ht, List.findIdx?_eq_some_iff_getElem]
    constructor
    · rintro ⟨hi, hit, hfirst⟩
      refine ⟨ht, ⟨_, List.getElem?_eq_getElem hi, by simpa using hit⟩, fun j e hji he => ?_⟩
      obtain ⟨_, rfl⟩ := List.getElem?_eq_some_iff.1 he
      simpa using hfirst j hji
    · rintro ⟨-, ⟨e, he, het⟩, hfirst⟩
      obtain ⟨hi, rfl⟩ := List.getElem?_eq_some_iff.1 he
      refine ⟨hi, by simpa using het, fun j hji => ?_⟩
      simpa using hfirst j _ hji (List.getElem?_eq_getElem (hji.trans hi))

/-- There is no match for the sentinel, and none for a tag that no entry has. -/
theorem lookup_eq_none_iff : lookup c t = none ↔ t = c.tagSentinel ∨ ∀ e ∈ c.tagTable, e.tag ≠ t := by
  by_cases ht : t = c.tagSentinel
  · subst ht
    simp [lookup_sentinel]
  · rw [lookup_of_ne_sentinel ht, List.findIdx?_eq_none_iff]
    simp [ht]

/-- In an admissible table an entry with the tag is the match: no entry has the sentinel, and no other entry has the tag
(20_memory.md rule R82). -/
theorem lookup_of_admissible (h : c.admissible = true) (he : c.tagTable[i]? = some e) :
    lookup c e.tag = some i := by
  obtain ⟨distinct, noSentinel⟩ := (Setup.admissible_iff c).1 h
  exact lookup_eq_some_iff.2 ⟨noSentinel i e he, ⟨e, he, rfl⟩, fun j d hji hd => distinct j i d e hji.ne hd he⟩

/-- Settles O48: the lookup's two outcomes, and the match in an admissible table. -/
theorem lookupFindsTheFirstEntry : Obligations.LookupFindsTheFirstEntry := by
  intro c t
  refine ⟨fun i => lookup_eq_some_iff, lookup_eq_none_iff, fun hc i e he het => ?_⟩
  subst het
  exact lookup_of_admissible hc he

/-! ### The tag phase -/

/-- A tag byte before the last (42_tag_link.md rule R182). -/
theorem tagPhase_of_next (h : nextLane k = some j) (b : Byte) (s : State) :
    tagPhase k b s = ((s.setTag (setByte s.tag k b)).goto (.tagT j)).reply none := by
  rw [tagPhase_eq, h]

/-- The last tag byte looks the completed tag up and arms the cursor (42_tag_link.md rule R182). -/
theorem tagPhase_last (b : Byte) (s : State) :
    tagPhase 3 b s
      = (((s.setTag (setByte s.tag 3 b)).setCursor (lookup s.cfg (setByte s.tag 3 b)) 0).goto .link).reply none :=
  tagPhase_eq 3 b s

/-- Settles O23: the four lanes by `setByte_four`, and each tag byte by the law of its phase. -/
theorem tagBytesFillTagAndLookUp : Obligations.TagBytesFillTagAndLookUp := by
  intro s b
  rw [exec_wrSerial]
  refine ⟨decodeBtw_wrSerial b, fun w a0 a1 a2 => setByte_four w a0 a1 a2 b, fun k j hkj h => ?_, fun h => ?_⟩
  · rw [serialByte_tagT h, tagPhase_of_next (nextLane_of_succ hkj)]
    rfl
  · rw [serialByte_tagT h, tagPhase_last]
    rfl

/-! ### The link read -/

/-- `LINK` answers `RD_DATA` with a link read (40_framing.md rule R134). -/
theorem exec_rdData_link (h : s.state = .named .link) : exec .rdData s = .next (linkRead s) := by
  rw [exec_rdData, ppAccess_named h (by simp)]
  rfl

/-- With no entry a link read returns the filler (42_tag_link.md rules R184, R186). -/
theorem linkRead_noEntry (h : s.linkEnt = none) : linkRead s = { s with rdata := some 0x5A, diag := none } := by
  rw [linkRead_eq, advance_noEntry h, h, readAt_noEntry]

/-- Inside the payload a link read returns the byte at the cursor and advances (42_tag_link.md rules R184, R186). -/
theorem linkRead_insidePayload {b : Byte} (h : s.linkEnt = some i) (he : s.cfg.tagTable[i]? = some e)
    (hb : e.payload[s.linkOff]? = some b) :
    linkRead s = { s with linkOff := s.linkOff + 1, rdata := some b, diag := none } := by
  obtain ⟨hlt, -⟩ := List.getElem?_eq_some_iff.1 hb
  rw [linkRead_eq, advance_entry h he, if_pos hlt, h, readAt_entry he, List.getD_eq_getElem?_getD, hb, Option.getD_some]

/-- Past the end a link read returns the filler and does not advance (42_tag_link.md rules R184, R186). -/
theorem linkRead_pastEnd (h : s.linkEnt = some i) (he : s.cfg.tagTable[i]? = some e)
    (hend : e.payload.length ≤ s.linkOff) : linkRead s = { s with rdata := some 0x5A, diag := none } := by
  rw [linkRead_eq, advance_entry h he, if_neg hend.not_gt, h, readAt_entry he, List.getD_eq_default _ _ hend]

/-- Settles O26: the cursor has no entry, stands inside the payload, or stands past its end, and a law of the link read gives
each case. -/
theorem linkReadDrainsThePayload : Obligations.LinkReadDrainsThePayload := by
  refine ⟨decodeBtw_rdData 0x00, fun s hs => ?_⟩
  rw [exec_rdData_link hs]
  refine ⟨fun h => ?_, fun i e h he => ⟨fun b hb => ?_, fun hend => ?_⟩⟩
  · rw [linkRead_noEntry h]
  · rw [linkRead_insidePayload h he hb]
  · rw [linkRead_pastEnd h he hend]

end Sys2Proof.Machine
end

section
/-! PROOFS. Family 43_register_file.md: the reads and the writes of the four cells (rules R211-R218), and that they are not
coupled (rule R219). -/

namespace Sys2Proof.Machine

/-! ### The four cells -/

/-- The register cells (10_state.md rule R34). -/
inductive RegisterCell where
  | cell07
  | cell10
  | cell11
  | cell14

namespace RegisterCell

/-- The port offset of a cell, which names it (10_state.md rule R34). -/
def offset : RegisterCell → BitVec 5
  | cell07 => 0x07
  | cell10 => 0x10
  | cell11 => 0x11
  | cell14 => 0x14

/-- The stored byte of a cell. -/
def stored : RegisterCell → State → Byte
  | cell07, s => s.cell07
  | cell10, s => s.cell10
  | cell11, s => s.cell11
  | cell14, s => s.cell14

/-- Store a byte in a cell. -/
def store : RegisterCell → Byte → State → State
  | cell07, b, s => s.setCell07 b
  | cell10, b, s => s.setCell10 b
  | cell11, b, s => s.setCell11 b
  | cell14, b, s => s.setCell14 b

/-- What a read of a cell makes of its stored byte: bit 0 of cell 0x10 is forced to 1 (10_state.md rule R35). -/
def shown : RegisterCell → Byte → Byte
  | cell07, b => b
  | cell10, b => withNoErrorBit b
  | cell11, b => b
  | cell14, b => b

/-- The access that reads a cell. -/
def read : RegisterCell → Instr
  | cell07 => .rdCell07
  | cell10 => .rdCell10
  | cell11 => .rdCell11
  | cell14 => .rdCell14

/-- The access that writes a byte to a cell. -/
def write : RegisterCell → Byte → Instr
  | cell07, b => .wrCell07 b
  | cell10, b => .wrCell10 b
  | cell11, b => .wrCell11 b
  | cell14, b => .wrCell14 b

variable {s t : State}

/-- A stored byte is one of the four of `State.cells`. -/
theorem stored_congr (r : RegisterCell) (h : s.cells = t.cells) : r.stored s = r.stored t := by
  obtain ⟨h07, h10, h11, h14⟩ : s.cell07 = t.cell07 ∧ s.cell10 = t.cell10 ∧ s.cell11 = t.cell11 ∧ s.cell14 = t.cell14 := by
    simpa [State.cells] using h
  cases r <;> assumption

@[simp] theorem stored_reply (r : RegisterCell) (out : Option Byte) (s : State) : r.stored (s.reply out) = r.stored s :=
  r.stored_congr rfl

@[simp] theorem stored_store_same (r : RegisterCell) (b : Byte) (s : State) : r.stored (r.store b s) = b := by
  cases r <;> rfl

/-- Storing a byte in one cell leaves the other three (43_register_file.md rule R219). -/
theorem stored_store_other {r q : RegisterCell} (h : q ≠ r) (b : Byte) (s : State) : q.stored (r.store b s) = q.stored s := by
  cases r <;> cases q <;> simp [stored, store] at h ⊢

/-- Every cell holds 0x00 after a reset (10_state.md rule R45). -/
theorem stored_resetBlock (r : RegisterCell) (s : State) : r.stored (resetBlock s) = 0x00 := by
  rw [resetBlock_eq]
  cases r <;> rfl

/-! ### Reading and writing a cell -/

/-- The BTW of a cell's read, whatever its DATA bits (30_encoding.md rules R91, R98). -/
theorem decodeBtw_read (r : RegisterCell) (x : Byte) : decodeBtw (busWord false r.offset x) = r.read := by
  rw [Sys2Proof.decodeBtw_read]
  cases r <;> rfl

/-- The BTW of a cell's write (30_encoding.md rules R91, R98). -/
theorem decodeBtw_write (r : RegisterCell) (b : Byte) : decodeBtw (busWord true r.offset b) = r.write b := by
  rw [Sys2Proof.decodeBtw_write]
  cases r <;> rfl

/-- A read returns the cell's byte in every state (43_register_file.md rules R211, R213, R215, R217). -/
theorem exec_read (r : RegisterCell) (s : State) : exec r.read s = .next (s.reply (some (r.shown (r.stored s)))) := by
  cases r <;> rfl

/-- A write stores the byte in every state (43_register_file.md rules R212, R214, R216, R218). -/
theorem exec_write (r : RegisterCell) (b : Byte) (s : State) : exec (r.write b) s = .next ((r.store b s).reply none) := by
  cases r <;> rfl

/-- A read right after a write returns what the cell makes of the byte written. -/
theorem exec_read_of_exec_write (r : RegisterCell) {b : Byte} (h : exec (r.write b) s = .next t) :
    exec r.read t = .next (t.reply (some (r.shown b))) := by
  rw [exec_write] at h
  cases h
  rw [exec_read, stored_reply, stored_store_same]

/-- What a read of a cell returns depends on that cell alone (43_register_file.md rule R219). -/
theorem rdata_read_congr (r : RegisterCell) (h : r.stored s = r.stored t) :
    ∃ s' t', exec r.read s = .next s' ∧ exec r.read t = .next t' ∧ s'.rdata = t'.rdata :=
  ⟨_, _, r.exec_read s, r.exec_read t, congrArg (some ∘ r.shown) h⟩

/-- The register-cell kinds are the reads and the writes of the four cells. -/
theorem accessesCell_cases {i : Instr} (h : accessesCell i = true) : ∃ r : RegisterCell, i = r.read ∨ ∃ b, i = r.write b := by
  cases i <;> simp only [accessesCell, Bool.false_eq_true] at h
  case rdCell07 => exact ⟨cell07, .inl rfl⟩
  case rdCell10 => exact ⟨cell10, .inl rfl⟩
  case rdCell11 => exact ⟨cell11, .inl rfl⟩
  case rdCell14 => exact ⟨cell14, .inl rfl⟩
  case wrCell07 b => exact ⟨cell07, .inr ⟨b, rfl⟩⟩
  case wrCell10 b => exact ⟨cell10, .inr ⟨b, rfl⟩⟩
  case wrCell11 b => exact ⟨cell11, .inr ⟨b, rfl⟩⟩
  case wrCell14 b => exact ⟨cell14, .inr ⟨b, rfl⟩⟩

end RegisterCell

/-! ### The PP-FSM leaves the register file -/

section
variable {s : State}

/-- An access of the PP-FSM leaves the register file if its rule does: neither pre-check writes a cell. -/
theorem ppAccess_cells {out : Option Byte} {rule : ProtocolState → State → State} (h : ∀ p, (rule p s).cells = s.cells) :
    (ppAccess out rule s).cells = s.cells :=
  ppAccess_induction (motive := fun t => t.cells = s.cells) (fun _ => rfl) rfl fun p _ _ => h p

theorem linkRead_cells (s : State) : (linkRead s).cells = s.cells := by
  rw [linkRead_eq]
  rfl

theorem linkSkip_cells (s : State) : (linkSkip s).cells = s.cells := by
  rw [linkSkip_eq]
  rfl

theorem dataRule_cells (p : ProtocolState) : (dataRule p s).cells = s.cells := by
  cases p
  case link => exact linkRead_cells s
  all_goals rfl

theorem skipRule_cells (p : ProtocolState) : (skipRule p s).cells = s.cells := by
  cases p
  case link => exact linkSkip_cells s
  all_goals rfl

theorem linkArmRule_cells (p : ProtocolState) : (linkArmRule p s).cells = s.cells := by
  cases p <;> rfl

theorem triggerRule_cells (p : ProtocolState) : (triggerRule p s).cells = s.cells := by
  cases p <;> rfl

theorem opcodePhase_cells (b : Byte) (s : State) : (opcodePhase b s).cells = s.cells := by
  unfold opcodePhase
  split_ifs <;> rfl

theorem pokeAddressPhase_cells (k : Lane) (b : Byte) (s : State) : (pokeAddressPhase k b s).cells = s.cells := by
  rw [pokeAddressPhase_eq]
  rfl

theorem peekAddressPhase_cells (k : Lane) (b : Byte) (s : State) : (peekAddressPhase k b s).cells = s.cells := by
  rw [peekAddressPhase_eq]
  split <;> rfl

theorem pokeValuePhase_cells (k : Lane) (b : Byte) (s : State) : (pokeValuePhase k b s).cells = s.cells := by
  rw [pokeValuePhase_eq]
  split <;> rfl

theorem tagPhase_cells (k : Lane) (b : Byte) (s : State) : (tagPhase k b s).cells = s.cells := by
  rw [tagPhase_eq]
  split <;> rfl

theorem serialRule_cells (b : Byte) (p : ProtocolState) : (serialRule b p s).cells = s.cells := by
  cases p
  case opcode => exact opcodePhase_cells b s
  case pokeA k => exact pokeAddressPhase_cells k b s
  case peekA k => exact peekAddressPhase_cells k b s
  case pokeV k => exact pokeValuePhase_cells k b s
  case tagT k => exact tagPhase_cells k b s
  all_goals rfl

/-- An access that reaches the PP-FSM leaves the register file (43_register_file.md rule R210). -/
theorem exec_cells_of_reachesFsm {i : Instr} (h : reachesFsm i = true) (s : State) :
    ∃ t, exec i s = .next t ∧ t.cells = s.cells := by
  rcases reachesFsm_cases h with rfl | rfl | rfl | ⟨b, rfl⟩ | ⟨b, hb⟩
  · exact ⟨_, rfl, ppAccess_cells dataRule_cells⟩
  · exact ⟨_, rfl, ppAccess_cells skipRule_cells⟩
  · exact ⟨_, rfl, ppAccess_cells linkArmRule_cells⟩
  · exact ⟨_, rfl, ppAccess_cells triggerRule_cells⟩
  · exact ⟨_, exec_eq_serialByte hb s, ppAccess_cells (serialRule_cells b)⟩

/-! ### What an access does to the register file -/

/-- A no-op access writes the outputs alone (40_framing.md rules R128, R129). -/
theorem exec_noOp {i : Instr} (h : isNoOp i = true) (s : State) :
    exec i s = .next (s.reply (if returnsByte i then some 0xFF else none)) := by
  cases i <;> simp [isNoOp, reachesFsm, accessesCell, encoding] at h <;> rfl

/-- An access leaves the register file, or it is the write of a cell. -/
theorem exec_cells_cases (i : Instr) (s : State) :
    (∃ t, exec i s = .next t ∧ t.cells = s.cells) ∨ ∃ (r : RegisterCell) (b : Byte), i = r.write b := by
  by_cases hfsm : reachesFsm i = true
  · exact .inl (exec_cells_of_reachesFsm hfsm s)
  by_cases hcell : accessesCell i = true
  · obtain ⟨r, rfl | ⟨b, hb⟩⟩ := RegisterCell.accessesCell_cases hcell
    · exact .inl ⟨_, r.exec_read s, rfl⟩
    · exact .inr ⟨r, b, hb⟩
  · have hnoOp : isNoOp i = true := by simp [isNoOp, hfsm, hcell]
    exact .inl ⟨_, exec_noOp hnoOp s, rfl⟩

/-! ### Runs that do not write a cell -/

/-- The run goes on where its first instruction ends. -/
theorem execAll_cons_of_next {i : Instr} {t : State} (h : exec i s = .next t) (is : List Instr) :
    execAll (i :: is) s = execAll is t := by
  simp only [execAll, h]

namespace RegisterCell

/-- An access that does not write a cell leaves it as it is (43_register_file.md rule R219). -/
theorem stored_exec_of_ne_write (r : RegisterCell) {i : Instr} (h : ∀ c, i ≠ r.write c) (s : State) :
    ∃ t, exec i s = .next t ∧ r.stored t = r.stored s := by
  rcases exec_cells_cases i s with ⟨t, ht, hcells⟩ | ⟨q, b, rfl⟩
  · exact ⟨t, ht, r.stored_congr hcells⟩
  · have hne : r ≠ q := fun e => h b (e ▸ rfl)
    exact ⟨_, q.exec_write b s, by rw [stored_reply, stored_store_other hne]⟩

/-- Accesses that do not write a cell leave it as it is. -/
theorem stored_execAll_of_ne_write (r : RegisterCell) (is : List Instr) (h : ∀ i ∈ is, ∀ c, i ≠ r.write c) (s : State) :
    ∃ t, execAll is s = .next t ∧ r.stored t = r.stored s := by
  induction is generalizing s with
  | nil => exact ⟨s, rfl, rfl⟩
  | cons i is ih =>
    obtain ⟨hi, his⟩ := List.forall_mem_cons.1 h
    obtain ⟨t, ht, hfirst⟩ := r.stored_exec_of_ne_write hi s
    obtain ⟨u, hu, hrest⟩ := ih his t
    exact ⟨u, (execAll_cons_of_next ht is).trans hu, hrest.trans hfirst⟩

/-- A cell keeps the byte written to it until it is written again. -/
theorem stored_execAll_write_cons (r : RegisterCell) (b : Byte) {is : List Instr} (s : State)
    (h : ∀ i ∈ is, ∀ c, i ≠ r.write c) : ∃ t, execAll (r.write b :: is) s = .next t ∧ r.stored t = b := by
  obtain ⟨t, ht, hkept⟩ := r.stored_execAll_of_ne_write is h ((r.store b s).reply none)
  refine ⟨t, (execAll_cons_of_next (r.exec_write b s) is).trans ht, ?_⟩
  rw [hkept, stored_reply, stored_store_same]

end RegisterCell

end

/-! ### The statements -/

/-- Settles O16: for each cell, the run that writes it once, and what its read depends on. -/
theorem cellsAreIndependent : Obligations.CellsAreIndependent := by
  intro is s s' b
  have kept (r : RegisterCell) := r.stored_execAll_write_cons b (is := is) s
  have alone (r : RegisterCell) := r.rdata_read_congr (s := s) (t := s')
  exact ⟨kept .cell07, kept .cell10, kept .cell11, kept .cell14, alone .cell07, alone .cell10, alone .cell11, alone .cell14⟩

/-- Settles O13: the four laws of a cell's read, of each cell that shows its byte as stored. -/
theorem plainCellReadsReturnTheStoredByte : Obligations.PlainCellReadsReturnTheStoredByte := by
  intro s t x b
  have laws (r : RegisterCell) :=
    And.intro (r.decodeBtw_read x) <| And.intro (r.exec_read s) <| And.intro (r.stored_resetBlock s) <|
      r.exec_read_of_exec_write (s := s) (t := t) (b := b)
  exact ⟨laws .cell07, laws .cell11, laws .cell14⟩

/-- Settles O14: the two laws of each cell's write, and of cell 0x10 the read that follows it. -/
theorem cellWritesStoreTheWholeByte : Obligations.CellWritesStoreTheWholeByte := by
  intro s t b
  have laws (r : RegisterCell) := And.intro (r.decodeBtw_write b) (r.exec_write b s)
  obtain ⟨decode10, write10⟩ := laws .cell10
  exact ⟨laws .cell07, ⟨decode10, write10, RegisterCell.exec_read_of_exec_write .cell10⟩, laws .cell11, laws .cell14⟩

end Sys2Proof.Machine
end

section
/-! PROOFS. Family 30_encoding.md: decode and encode agree (rules R91, R93, R98, R99), by instructions, by bus words, by
opcode bytes and by strings of bytes. -/

namespace Sys2Proof

/-! ### What each row is decoded from -/

/-- The instruction an encoding stands for. -/
def decodeEncoding : Encoding → Instr
  | .read off => decodeRead off
  | .write off b => decodeWrite off b
  | .opByte b => decodeOpByte b

/-- The decoder reads each encoding from its bytes. -/
theorem decode_encodingBytes (e : Encoding) : decode (encodingBytes e) = .ok (decodeEncoding e) := by
  cases e with
  | read off => exact decode_read_bytes off
  | write off b => exact decode_write_bytes off b
  | opByte b => exact decode_opByte_bytes b

@[simp] theorem encoding_decodeRead (off : BitVec 5) : encoding (decodeRead off) = .read off := by
  revert off
  decide

@[simp] theorem encoding_decodeWrite (off : BitVec 5) (b : Byte) : encoding (decodeWrite off b) = .write off b := by
  obtain ⟨⟨n, hn⟩⟩ := off
  interval_cases n <;> rfl

@[simp] theorem encoding_decodeOpByte (b : Byte) : encoding (decodeOpByte b) = .opByte b := by
  revert b
  decide

/-- Only an opcode byte can be one that its row does not have. -/
theorem wellFormed_of_ne_opByte {i : Instr} (h : ∀ b, encoding i ≠ .opByte b) : i.wellFormed = true := by
  cases i <;> simp [encoding, Instr.wellFormed] at h ⊢

theorem wellFormed_decodeOpByte (b : Byte) : (decodeOpByte b).wellFormed = true := by
  revert b
  decide

/-- The one row of an opcode byte is the one whose fixed bits it has (30_encoding.md rule R93). -/
theorem decodeOpByte_of_encoding {i : Instr} {b : Byte} (hwf : i.wellFormed = true) (h : encoding i = .opByte b) :
    decodeOpByte b = i := by
  cases i <;> simp only [encoding, Encoding.opByte.injEq, reduceCtorEq] at h <;> subst h
  case opPoke => rfl
  case opPeek => rfl
  all_goals
    revert hwf
    rename_i b
    revert b
    decide

/-- A well-formed instruction is the one its encoding stands for. -/
theorem decodeEncoding_encoding {i : Instr} (hwf : i.wellFormed = true) : decodeEncoding (encoding i) = i := by
  rcases h : encoding i with off | ⟨off, b⟩ | b
  case opByte => exact decodeOpByte_of_encoding hwf h
  all_goals cases i <;> cases h <;> rfl

/-- Two well-formed instructions with one encoding are one instruction. -/
theorem encoding_injOn {i j : Instr} (hi : i.wellFormed = true) (hj : j.wellFormed = true) (h : encoding i = encoding j) :
    i = j := by
  rw [← decodeEncoding_encoding hi, h, decodeEncoding_encoding hj]

/-- Settles O1: the decoder reads the encoding from its bytes, and the encoding stands for the instruction. -/
theorem decodeOfEncodeIsTheInstruction : Obligations.DecodeOfEncodeIsTheInstruction := by
  intro i hwf
  rw [encode, decode_encodingBytes, decodeEncoding_encoding hwf]

/-! ### Bus words -/

theorem encoding_decodeBtw (w : BitVec 14) :
    encoding (decodeBtw w) = if btwIsWrite w then .write (btwOffset w) (btwData w) else .read (btwOffset w) := by
  unfold decodeBtw
  split
  · exact encoding_decodeWrite _ _
  · exact encoding_decodeRead _

theorem encoding_decodeBtw_ne_opByte (w : BitVec 14) (b : Byte) : encoding (decodeBtw w) ≠ .opByte b := by
  rw [encoding_decodeBtw]
  split <;> simp

/-- Settles O2: the fields rebuild the word, and no other instruction has the encoding it decodes to. -/
theorem everyBusWordDecodesToItsRow : Obligations.EveryBusWordDecodesToItsRow := by
  intro w
  have hwf : (decodeBtw w).wellFormed = true := wellFormed_of_ne_opByte (encoding_decodeBtw_ne_opByte w)
  refine ⟨busWord_fields w, hwf, encoding_decodeBtw w, fun i hi => ?_⟩
  exact encoding_injOn (wellFormed_of_ne_opByte fun b => hi ▸ encoding_decodeBtw_ne_opByte w b) hwf hi

/-! ### Opcode bytes -/

/-- An opcode byte decodes to a row exactly when the row has its encoding. -/
theorem decodeOpByte_eq_iff {i : Instr} (hwf : i.wellFormed = true) (b : Byte) :
    decodeOpByte b = i ↔ encoding i = .opByte b := by
  refine ⟨fun h => ?_, decodeOpByte_of_encoding hwf⟩
  rw [← h, encoding_decodeOpByte]

/-- Settles O3: `decodeOpByte_eq_iff` says which byte decodes to which row. -/
theorem everyOpcodeByteDecodesToItsRow : Obligations.EveryOpcodeByteDecodesToItsRow := by
  intro b
  refine ⟨wellFormed_decodeOpByte b, encoding_decodeOpByte b, fun i hwf h => (decodeOpByte_of_encoding hwf h).symm, ?_, ?_⟩
  · rw [decodeOpByte_eq_iff rfl, encoding, Encoding.opByte.injEq, eq_comm]
  · rw [decodeOpByte_eq_iff rfl, encoding, Encoding.opByte.injEq, eq_comm]

/-! ### Strings of bytes -/

/-- Settles O4: one case for each number of bytes. -/
theorem decoderAcceptsExactlyTwoFormats : Obligations.DecoderAcceptsExactlyTwoFormats := by
  intro bytes
  match bytes with
  | [] => simp [decode]
  | [b] => simp [decode]
  | [lo, hi] =>
    simp only [decode]
    split
    · next h => exact iff_of_true ⟨_, rfl⟩ (.inr ⟨lo, hi, rfl, h⟩)
    · next h => simpa using h
  | _ :: _ :: _ :: _ => simp [decode]

/-- Settles O5: each word is the bytes of an encoding, which `decode_encodingBytes` reads. -/
theorem wordsOfTheSpecDecode : Obligations.WordsOfTheSpecDecode :=
  ⟨decode_encodingBytes (.write 0x01 0x78), decode_encodingBytes (.read 0x00), decode_encodingBytes (.write 0x10 0x80),
    decode_encodingBytes (.write 0x03 0xA5), decode_encodingBytes (.read 0x03), decode_encodingBytes (.read 0x05),
    decode_encodingBytes (.write 0x00 0x12), decode_encodingBytes (.opByte 0x01), decode_encodingBytes (.opByte 0x07)⟩

end Sys2Proof
end

section
/-! PROOFS. Family 40_framing.md: the rule table (rule R131). No two rows match the same access, and the PP-FSM does what the
matching row says. -/

namespace Sys2Proof.Machine

/-! ### No two rows match the same access -/

/-- Is there a byte that both conditions may let through? -/
def ByteClass.meets : ByteClass → ByteClass → Bool
  | .exactly b, .exactly c => b == c
  | .exactly b, .illegal => decide (0x02 ≤ b)
  | .illegal, .exactly b => decide (0x02 ≤ b)
  | .illegal, .illegal => true
  | .any, _ => true
  | _, .any => true

theorem ByteClass.meets_of_holds {c d : ByteClass} {b : Byte} (hc : c.holds b = true) (hd : d.holds b = true) :
    c.meets d = true := by
  cases c <;> cases d <;> simp_all [ByteClass.holds, ByteClass.meets]

/-- May two rows match the same access? -/
def Rule.overlaps (q r : Rule) : Bool := q.pre == r.pre && q.isWrite == r.isWrite && q.off == r.off && q.cond.meets r.cond

variable {q r : Rule} {p : ProtocolState} {isWrite : Bool} {off : BitVec 5} {b : Byte} {s : State}

theorem Rule.fires_iff :
    r.fires p isWrite off b = true ↔ r.pre = p ∧ r.isWrite = isWrite ∧ r.off = off ∧ r.cond.holds b = true := by
  simp [Rule.fires, and_assoc]

theorem Rule.overlaps_of_fires (hq : q.fires p isWrite off b = true) (hr : r.fires p isWrite off b = true) :
    q.overlaps r = true := by
  obtain ⟨qpre, qdir, qoff, qcond⟩ := Rule.fires_iff.1 hq
  obtain ⟨rpre, rdir, roff, rcond⟩ := Rule.fires_iff.1 hr
  simp [Rule.overlaps, qpre, qdir, qoff, rpre, rdir, roff, ByteClass.meets_of_holds qcond rcond]

/-- Every row overlaps itself alone. -/
theorem ruleTable_overlaps : ∀ q ∈ ruleTable, ∀ r ∈ ruleTable, q.overlaps r = true → q = r := by decide

/-- Settles O30: two rows that match one access overlap. -/
theorem ruleTableRowsNeverOverlap : Obligations.RuleTableRowsNeverOverlap := by
  intro p isWrite off b q r hq hr hfq hfr
  exact ruleTable_overlaps q hq r hr (Rule.overlaps_of_fires hfq hfr)

/-- The row the scan finds is a row of the table that matches. -/
theorem matchingRow_some (h : matchingRow p isWrite off b = some r) : r ∈ ruleTable ∧ r.fires p isWrite off b = true := by
  unfold matchingRow at h
  exact ⟨List.mem_of_find?_eq_some h, List.find?_some (p := fun r : Rule => r.fires p isWrite off b) h⟩

/-- A row that matches is the row the scan finds. -/
theorem matchingRow_of_fires (hr : r ∈ ruleTable) (hf : r.fires p isWrite off b = true) :
    matchingRow p isWrite off b = some r := by
  rcases hm : matchingRow p isWrite off b with _ | q
  · exact absurd hf (List.find?_eq_none.1 hm r hr)
  · obtain ⟨hq, hfq⟩ := matchingRow_some hm
    rw [ruleTableRowsNeverOverlap p isWrite off b q r hq hr hfq hf]

/-! ### The scan -/

theorem scanTable_of_row (hr : r ∈ ruleTable) (hf : r.fires p isWrite off b = true) (s : State) :
    scanTable p isWrite off b s = r.apply b s := by
  rw [scanTable, matchingRow_of_fires hr hf]

/-- A port that no row names in the access's direction matches nothing (row T22). -/
theorem scanTable_of_no_row (h : ∀ r ∈ ruleTable, r.isWrite = isWrite → r.off ≠ off) (p : ProtocolState) (b : Byte)
    (s : State) : scanTable p isWrite off b s = s.reply (if isWrite then none else some 0xFF) := by
  have hm : matchingRow p isWrite off b = none := by
    refine List.find?_eq_none.2 fun r hr hf => ?_
    obtain ⟨-, hdir, hoff, -⟩ := Rule.fires_iff.1 hf
    exact h r hr hdir hoff
  rw [scanTable, hm]

/-- The access matches a row, or it does nothing. -/
theorem scanTable_cases (p : ProtocolState) (isWrite : Bool) (off : BitVec 5) (b : Byte) (s : State) :
    (∃ r ∈ ruleTable, r.fires p isWrite off b = true ∧ scanTable p isWrite off b s = r.apply b s)
      ∨ scanTable p isWrite off b s = s.reply (if isWrite then none else some 0xFF) := by
  unfold scanTable
  split
  · next r h =>
    obtain ⟨hr, hf⟩ := matchingRow_some h
    exact .inl ⟨r, hr, hf, rfl⟩
  · exact .inr rfl

/-! ### The rule of each port is its rows -/

/-- The illegal opcode bytes are all but the two opcodes (60_exceptions.md rule R242). -/
theorem two_le_iff (b : Byte) : 0x02 ≤ b ↔ b ≠ 0x00 ∧ b ≠ 0x01 := by
  revert b
  decide

/-- Row T7: an illegal opcode byte. -/
def illegalOpcodeRow : Rule := ⟨.opcode, true, 0x01, .illegal, .fault, .unsupported, .dash⟩

theorem illegalOpcodeRow_mem : illegalOpcodeRow ∈ ruleTable := by decide

theorem illegalOpcodeRow_apply (b : Byte) (s : State) : illegalOpcodeRow.apply b s = raiseFault 0x01 b none s := rfl

theorem scanTable_trigger (p : ProtocolState) (b : Byte) (s : State) : scanTable p true 0x03 b s = triggerRule p s := by
  cases p
  case pokeA k | pokeV k | peekA k | peekD k | tagT k => fin_cases k <;> rfl
  all_goals rfl

theorem scanTable_linkArm (p : ProtocolState) (b : Byte) (s : State) : scanTable p false 0x03 b s = linkArmRule p s := by
  cases p
  case pokeA k | pokeV k | peekA k | peekD k | tagT k => fin_cases k <;> rfl
  all_goals rfl

theorem scanTable_opcode (b : Byte) (s : State) : scanTable .opcode true 0x01 b s = opcodePhase b s := by
  by_cases h : 0x02 ≤ b
  · obtain ⟨h0, h1⟩ := (two_le_iff b).1 h
    have hf : illegalOpcodeRow.fires .opcode true 0x01 b = true := Rule.fires_iff.2 ⟨rfl, rfl, rfl, decide_eq_true h⟩
    rw [scanTable_of_row illegalOpcodeRow_mem hf, illegalOpcodeRow_apply, opcodePhase_illegal h0 h1]
  · rw [two_le_iff, ← not_or, not_not] at h
    rcases h with rfl | rfl <;> rfl

theorem scanTable_serial (p : ProtocolState) (b : Byte) (s : State) : scanTable p true 0x01 b s = serialRule b p s := by
  cases p
  case opcode => exact scanTable_opcode b s
  case pokeA k | pokeV k | peekA k | peekD k | tagT k => fin_cases k <;> rfl
  all_goals rfl

theorem scanTable_data (h : s.state = .named p) (b : Byte) : scanTable p false 0x00 b s = dataRule p s := by
  cases p
  case link =>
    have row : scanTable .link false 0x00 b s
        = ((advance s).goto .link).reply (some (readAt s.cfg s.linkEnt s.linkOff)) := rfl
    rw [row, advance_eq, State.goto, ← h]
    exact (linkRead_eq s).symm
  case pokeA k | pokeV k | peekA k | peekD k | tagT k => fin_cases k <;> rfl
  all_goals rfl

theorem scanTable_skip (h : s.state = .named p) (b : Byte) : scanTable p false 0x02 b s = skipRule p s := by
  cases p
  case link =>
    have row : scanTable .link false 0x02 b s = ((advance s).goto .link).reply (some 0xFF) := rfl
    rw [row, advance_eq, State.goto, ← h]
    exact (linkSkip_eq s).symm
  case pokeA k | pokeV k | peekA k | peekD k | tagT k => fin_cases k <;> rfl
  all_goals rfl

/-! ### The PP-FSM is its table -/

/-- In a named state an access follows its rule; in `FAULT` too, where the rule does nothing. -/
theorem ppAccess_of_named {out : Option Byte} {rule : ProtocolState → State → State} (h : s.state = .named p)
    (hfault : rule .fault s = s.reply out) : ppAccess out rule s = rule p s := by
  by_cases hp : p = .fault
  · subst hp
    rw [ppAccess_fault h, hfault]
  · exact ppAccess_named h hp

theorem exec_rdData_of_named (h : s.state = .named p) : exec .rdData s = .next (dataRule p s) := by
  rw [exec_rdData, ppAccess_of_named h rfl]

theorem exec_rdSkip (s : State) : exec .rdSkip s = .next (ppAccess (some 0xFF) skipRule s) := rfl

theorem exec_rdSkip_of_named (h : s.state = .named p) : exec .rdSkip s = .next (skipRule p s) := by
  rw [exec_rdSkip, ppAccess_of_named h rfl]

theorem exec_rdLinkarm (s : State) : exec .rdLinkarm s = .next (ppAccess (some 0xFF) linkArmRule s) := rfl

theorem exec_rdLinkarm_of_named (h : s.state = .named p) : exec .rdLinkarm s = .next (linkArmRule p s) := by
  rw [exec_rdLinkarm, ppAccess_of_named h rfl]

theorem exec_wrTrigger (b : Byte) (s : State) : exec (.wrTrigger b) s = .next (ppAccess none triggerRule s) := rfl

theorem exec_wrTrigger_of_named (h : s.state = .named p) (b : Byte) : exec (.wrTrigger b) s = .next (triggerRule p s) := by
  rw [exec_wrTrigger, ppAccess_of_named h rfl]

theorem exec_wrSerial_of_named (h : s.state = .named p) (b : Byte) : exec (.wrSerial b) s = .next (serialRule b p s) := by
  rw [exec_wrSerial, serialByte, ppAccess_of_named h rfl]

theorem offset_lt_four_cases (h : off < 0x04) : off = 0x00 ∨ off = 0x01 ∨ off = 0x02 ∨ off = 0x03 := by
  revert off
  decide

theorem exec_decodeRead_eq_scanTable (h : s.state = .named p) (hoff : off < 0x04) (b : Byte) :
    exec (decodeRead off) s = .next (scanTable p false off b s) := by
  rcases offset_lt_four_cases hoff with rfl | rfl | rfl | rfl
  · exact (exec_rdData_of_named h).trans (congrArg _ (scanTable_data h b).symm)
  · rw [scanTable_of_no_row (by decide)]
    rfl
  · exact (exec_rdSkip_of_named h).trans (congrArg _ (scanTable_skip h b).symm)
  · exact (exec_rdLinkarm_of_named h).trans (congrArg _ (scanTable_linkArm p b s).symm)

theorem exec_decodeWrite_eq_scanTable (h : s.state = .named p) (hoff : off < 0x04) (b : Byte) :
    exec (decodeWrite off b) s = .next (scanTable p true off b s) := by
  rcases offset_lt_four_cases hoff with rfl | rfl | rfl | rfl
  · rw [scanTable_of_no_row (by decide)]
    rfl
  · exact (exec_wrSerial_of_named h b).trans (congrArg _ (scanTable_serial p b s).symm)
  · rw [scanTable_of_no_row (by decide)]
    rfl
  · exact (exec_wrTrigger_of_named h b).trans (congrArg _ (scanTable_trigger p b s).symm)

/-- Settles O29: a bus word is a read or a write, and the rule of each of the four ports is its rows. -/
theorem fsmRefinesTheRuleTable : Obligations.FsmRefinesTheRuleTable := by
  intro s p w h hoff
  unfold decodeBtw
  split
  · next hw => rw [hw, exec_decodeWrite_eq_scanTable h hoff]
  · next hw => rw [Bool.eq_false_iff.2 hw, exec_decodeRead_eq_scanTable h hoff]

end Sys2Proof.Machine
end

section
/-! PROOFS. What an access can do, said once: the access that carries an instruction, the second-level decode (30_encoding.md
rule R93), and the four kinds of effect an access can have (40_framing.md rules R120-R123). -/

namespace Sys2Proof.Machine

variable {i : Instr} {s t : State} {p : ProtocolState} {r : Rule} {off : BitVec 5} {b : Byte} {es : List HostEvent}

/-! ### What the PP-FSM holds -/

/-- Two states hold the same for the PP-FSM where they have the same of each of its fields. -/
theorem fsmPart_eq_iff :
    t.fsmPart = s.fsmPart
      ↔ t.state = s.state ∧ t.addr = s.addr ∧ t.val = s.val ∧ t.tag = s.tag ∧ t.linkEnt = s.linkEnt
        ∧ t.linkOff = s.linkOff ∧ t.mem = s.mem ∧ t.memFill = s.memFill ∧ t.faultCode = s.faultCode
        ∧ t.faultInfo = s.faultInfo ∧ t.cfg = s.cfg := by
  simp [State.fsmPart]

theorem state_of_fsmPart (h : t.fsmPart = s.fsmPart) : t.state = s.state := (fsmPart_eq_iff.1 h).1

/-! ### The second-level decode -/

/-- A write is decoded by its byte in `OPCODE` at the serial port, and by its offset everywhere else. -/
theorem instrAt_write (s : State) (off : BitVec 5) (b : Byte) :
    instrAt s (busWord true off b)
      = if s.state = .named .opcode ∧ off = 0x01 then decodeOpByte b else decodeWrite off b := by
  unfold instrAt
  split
  · next c hs hw =>
    have hoff : Encoding.write off b = .write 0x01 c := by
      rw [← encoding_decodeWrite, ← decodeBtw_write, hw, encoding]
    obtain ⟨rfl, rfl⟩ : off = 0x01 ∧ b = c := by simpa using hoff
    rw [if_pos ⟨hs, rfl⟩]
  · next hne =>
    rw [decodeBtw_write, if_neg]
    rintro ⟨hs, rfl⟩
    exact hne b hs (decodeBtw_write _ _)

/-- A read is decoded by its offset alone. -/
theorem instrAt_read (s : State) (off : BitVec 5) (b : Byte) : instrAt s (busWord false off b) = decodeRead off := by
  unfold instrAt
  split
  · next c hs hw =>
    have hoff : Encoding.read off = .write 0x01 c := by
      rw [← encoding_decodeRead, ← decodeBtw_read off b, hw, encoding]
    cases hoff
  · exact decodeBtw_read off b

/-- The second level of decode makes no difference to what an access does. -/
theorem exec_instrAt (s t : State) (w : BitVec 14) : exec (instrAt t w) s = exec (decodeBtw w) s := by
  unfold instrAt
  split
  · next b _ hw =>
    rw [hw, exec_wrSerial]
    exact exec_eq_serialByte (.inr (encoding_decodeOpByte b)) s
  · rfl

/-- Settles O7: an opcode byte means the serial byte that carries it. -/
theorem secondLevelDecodeAgreesWithTheAccess : Obligations.SecondLevelDecodeAgreesWithTheAccess := by
  refine ⟨fun s i b h => ?_, fun s w => exec_instrAt s s w⟩
  rw [exec_eq_serialByte (.inr h), exec_wrSerial]

/-! ### The step that serves an access -/

theorem step_write (h : s.pending = .write (s.cfg.portBase + off.toNat) b :: es) :
    step s = exec (instrAt s (busWord true off b)) (s.setPending es) := by
  simp only [step, h, serve, State.setPending_cfg, busSelect_inside]
  rfl

theorem step_read (h : s.pending = .read (s.cfg.portBase + off.toNat) :: es) :
    step s = exec (instrAt s (busWord false off 0x00)) (s.setPending es) := by
  simp only [step, h, serve, State.setPending_cfg, busSelect_inside]
  rfl

/-- Settles O6: the step runs `instrAt`, which is what the decoder reads. -/
theorem stepRunsTheDecodedInstruction : Obligations.StepRunsTheDecodedInstruction := by
  intro s es off b i _
  constructor
  · intro hp hd
    rw [step_write hp, instrAt_write]
    split_ifs at hd ⊢ with hop
    · rw [decode_opByte_bytes] at hd
      cases hd
      rfl
    · rw [decode_write_bytes] at hd
      cases hd
      rfl
  · intro hp hd
    rw [decode_read_bytes] at hd
    cases hd
    rw [step_read hp, instrAt_read]

/-! ### The access that carries an instruction -/

/-- The BTW of the access that carries an instruction: an opcode byte is carried by `WR_SERIAL` (30_encoding.md rule R93). -/
def carrier (i : Instr) : BitVec 14 :=
  match encoding i with
  | .read off => rd off
  | .write off b => wr off b
  | .opByte b => wr 0x01 b

theorem carrier_of_read (h : encoding i = .read off) : carrier i = rd off := by rw [carrier, h]

theorem carrier_of_write (h : encoding i = .write off b) : carrier i = wr off b := by rw [carrier, h]

theorem carrier_of_opByte (h : encoding i = .opByte b) : carrier i = wr 0x01 b := by rw [carrier, h]

theorem decodeRead_of_encoding (h : encoding i = .read off) : decodeRead off = i := by
  have hi := decodeEncoding_encoding (i := i) (wellFormed_of_ne_opByte (by simp [h]))
  rwa [h] at hi

theorem decodeWrite_of_encoding (h : encoding i = .write off b) : decodeWrite off b = i := by
  have hi := decodeEncoding_encoding (i := i) (wellFormed_of_ne_opByte (by simp [h]))
  rwa [h] at hi

/-- An instruction does what the access that carries it does. -/
theorem exec_carrier (i : Instr) (s : State) : exec (decodeBtw (carrier i)) s = exec i s := by
  rcases h : encoding i with off | ⟨off, b⟩ | b
  · rw [carrier_of_read h, rd, decodeBtw_read, decodeRead_of_encoding h]
  · rw [carrier_of_write h, wr, decodeBtw_write, decodeWrite_of_encoding h]
  · rw [carrier_of_opByte h, wr, decodeBtw_write, exec_eq_serialByte (.inr h)]
    exact exec_wrSerial b s

/-- An access reads exactly where it is no write. -/
theorem returnsByte_eq (i : Instr) : returnsByte i = !btwIsWrite (carrier i) := by
  rcases h : encoding i with off | ⟨off, b⟩ | b
  · rw [returnsByte, h, carrier_of_read h, rd, btwIsWrite_busWord]
    rfl
  · rw [returnsByte, h, carrier_of_write h, wr, btwIsWrite_busWord]
    rfl
  · rw [returnsByte, h, carrier_of_opByte h, wr, btwIsWrite_busWord]
    rfl

/-- An access that the PP-FSM takes goes to one of its four ports. -/
theorem carrier_offset_lt (h : reachesFsm i = true) : btwOffset (carrier i) < 0x04 := by
  rcases reachesFsm_cases h with rfl | rfl | rfl | ⟨b, rfl⟩ | ⟨b, hb | hb⟩
  · decide
  · decide
  · decide
  · rw [carrier_of_write rfl, wr, btwOffset_busWord]
    decide
  · rw [carrier_of_write hb, wr, btwOffset_busWord]
    decide
  · rw [carrier_of_opByte hb, wr, btwOffset_busWord]
    decide

/-- A write that the serial port carries is `WR_SERIAL` or an opcode byte. -/
theorem encoding_of_carrier_serial (hw : btwIsWrite (carrier i) = true) (ho : btwOffset (carrier i) = 0x01) :
    encoding i = .write 0x01 (btwData (carrier i)) ∨ encoding i = .opByte (btwData (carrier i)) := by
  rcases h : encoding i with off | ⟨off, b⟩ | b
  · simp [carrier_of_read h, rd] at hw
  · left
    rw [carrier_of_write h, wr, btwOffset_busWord] at ho
    rw [carrier_of_write h, wr, btwData_busWord, ho]
  · right
    rw [carrier_of_opByte h, wr, btwData_busWord]

/-! ### The effect of an access -/

/-- An access that reaches the PP-FSM passes the pre-checks first, and returns 0xFF from them if it reads. -/
theorem exec_eq_ppAccess (h : reachesFsm i = true) :
    ∃ rule, ∀ s, exec i s = .next (ppAccess (if returnsByte i then some 0xFF else none) rule s) := by
  rcases reachesFsm_cases h with rfl | rfl | rfl | ⟨b, rfl⟩ | ⟨b, hb⟩
  · exact ⟨_, exec_rdData⟩
  · exact ⟨_, exec_rdSkip⟩
  · exact ⟨_, exec_rdLinkarm⟩
  · exact ⟨_, exec_wrTrigger b⟩
  · have hwrite : returnsByte i = false := by rcases hb with hb | hb <;> simp [returnsByte, hb]
    refine ⟨serialRule b, fun s => ?_⟩
    rw [exec_eq_serialByte hb, serialByte, hwrite]
    rfl

/-- Settles O31: the pre-check for `FAULT`. -/
theorem faultStateIsInert : Obligations.FaultStateIsInert := by
  intro s i hs hi
  obtain ⟨rule, hrule⟩ := exec_eq_ppAccess hi
  rw [hrule, ppAccess_fault hs]
  rfl

/-- Settles O33: the pre-check for a state register that names no state. -/
theorem illegalStateCodeRaisesProtocolViolation : Obligations.IllegalStateCodeRaisesProtocolViolation := by
  intro s c i hs hi
  obtain ⟨rule, hrule⟩ := exec_eq_ppAccess hi
  rw [hrule, ppAccess_unnamed hs, raiseFault_eq]

/-- In a named state an access that reaches the PP-FSM does what the rule table says of its carrier. -/
theorem exec_eq_scanTable (hi : reachesFsm i = true) (hs : s.state = .named p) :
    exec i s = .next (scanTable p (btwIsWrite (carrier i)) (btwOffset (carrier i)) (btwData (carrier i)) s) := by
  rw [← exec_carrier]
  exact fsmRefinesTheRuleTable s p (carrier i) hs (carrier_offset_lt hi)

/-- What an access can do: leave the PP-FSM alone, raise ProtocolViolation from a state register that names no state, follow
the row of the rule table that matches it, or match nothing. -/
inductive AccessEffect (i : Instr) (s : State) : State → Prop where
  | outside {t : State} (hi : reachesFsm i = false) (hfsm : t.fsmPart = s.fsmPart) (hpending : t.pending = s.pending)
      (hdiag : t.diag = none) : AccessEffect i s t
  | violation {c : Fin 8} (hi : reachesFsm i = true) (hs : s.state = .unnamed c) :
      AccessEffect i s (raiseFault 0x02 (0x18 + BitVec.ofNat 8 c.val) (if returnsByte i then some 0xFF else none) s)
  | row {p : ProtocolState} {r : Rule} (hs : s.state = .named p) (hr : r ∈ ruleTable)
      (hf : r.fires p (btwIsWrite (carrier i)) (btwOffset (carrier i)) (btwData (carrier i)) = true) :
      AccessEffect i s (r.apply (btwData (carrier i)) s)
  | unmatched {p : ProtocolState} (hs : s.state = .named p) :
      AccessEffect i s (s.reply (if returnsByte i then some 0xFF else none))

/-- Every access has one of the four effects. -/
theorem exec_effect (h : exec i s = .next t) : AccessEffect i s t := by
  rcases hi : reachesFsm i
  · obtain ⟨u, hu, hfsm, hpending, hdiag⟩ := exec_outside_fsm hi s
    obtain rfl : u = t := by simpa [hu] using h
    exact .outside hi hfsm hpending hdiag
  rcases hs : s.state with p | c
  · rw [exec_eq_scanTable hi hs] at h
    cases h
    rcases scanTable_cases p _ _ _ s with ⟨r, hr, hf, happly⟩ | hreply
    · rw [happly]
      exact .row hs hr hf
    · have hout : (if btwIsWrite (carrier i) then none else some (0xFF : Byte))
          = if returnsByte i then some 0xFF else none := by
        rw [returnsByte_eq]
        cases btwIsWrite (carrier i) <;> rfl
      rw [hreply, hout]
      exact .unmatched hs
  · obtain ⟨rule, hrule⟩ := exec_eq_ppAccess hi
    rw [hrule, ppAccess_unnamed hs] at h
    cases h
    exact .violation hi hs

/-! ### What a row writes -/

/-- The effect column writes the accumulators, the cursor, memory and the fault registers, and no other field. -/
theorem Effect.apply_frame (e : Effect) (b : Byte) (s : State) :
    e.apply b s = { s with
      addr := (e.apply b s).addr, val := (e.apply b s).val, tag := (e.apply b s).tag
      linkEnt := (e.apply b s).linkEnt, linkOff := (e.apply b s).linkOff, mem := (e.apply b s).mem
      faultCode := (e.apply b s).faultCode, faultInfo := (e.apply b s).faultInfo } := by
  cases e
  case valLaneStore =>
    simp only [Effect.apply]
    rw [memWrite_eq]
    rfl
  case advanceCursor =>
    simp only [Effect.apply]
    rw [advance_eq]
  all_goals rfl

@[simp] theorem Effect.apply_cfg (e : Effect) (b : Byte) (s : State) : (e.apply b s).cfg = s.cfg := by
  rw [Effect.apply_frame]

@[simp] theorem Effect.apply_memFill (e : Effect) (b : Byte) (s : State) : (e.apply b s).memFill = s.memFill := by
  rw [Effect.apply_frame]

@[simp] theorem Rule.apply_state (r : Rule) (b : Byte) (s : State) : (r.apply b s).state = .named r.post := rfl

@[simp] theorem Rule.apply_addr (r : Rule) (b : Byte) (s : State) : (r.apply b s).addr = (r.effect.apply b s).addr := rfl

@[simp] theorem Rule.apply_val (r : Rule) (b : Byte) (s : State) : (r.apply b s).val = (r.effect.apply b s).val := rfl

@[simp] theorem Rule.apply_linkEnt (r : Rule) (b : Byte) (s : State) :
    (r.apply b s).linkEnt = (r.effect.apply b s).linkEnt := rfl

@[simp] theorem Rule.apply_linkOff (r : Rule) (b : Byte) (s : State) :
    (r.apply b s).linkOff = (r.effect.apply b s).linkOff := rfl

@[simp] theorem Rule.apply_mem (r : Rule) (b : Byte) (s : State) : (r.apply b s).mem = (r.effect.apply b s).mem := rfl

@[simp] theorem Rule.apply_memFill (r : Rule) (b : Byte) (s : State) : (r.apply b s).memFill = s.memFill :=
  r.effect.apply_memFill b s

@[simp] theorem Rule.apply_faultCode (r : Rule) (b : Byte) (s : State) :
    (r.apply b s).faultCode = (r.effect.apply b s).faultCode := rfl

@[simp] theorem Rule.apply_cfg (r : Rule) (b : Byte) (s : State) : (r.apply b s).cfg = s.cfg :=
  r.effect.apply_cfg b s

@[simp] theorem Rule.apply_rdata (r : Rule) (b : Byte) (s : State) : (r.apply b s).rdata = r.out.byte s := rfl

end Sys2Proof.Machine
end

section
/-! PROOFS. The ports: the no-op kinds and the status cell (40_framing.md rules R128, R129, 43_register_file.md rule R213),
and where the trigger, the link arm, the serial byte and the two output ports match a rule (40_framing.md rules R123-R126, R134,
R135, 42_tag_link.md rules R180, R181, R187). -/

namespace Sys2Proof.Machine

variable {s : State} {p : ProtocolState} {k : Lane}

/-! ### No-op kinds and the status cell -/

/-- Settles O12: the law of a no-op access. -/
theorem noOpAccessesChangeNothing : Obligations.NoOpAccessesChangeNothing := by
  intro s i h
  rw [exec_noOp h]
  rfl

/-- Settles O15: the read of cell 0x10 shows its byte with the status bit. -/
theorem statusCellReadsWithBitZeroSet : Obligations.StatusCellReadsWithBitZeroSet := by
  intro s
  exact RegisterCell.exec_read .cell10 s

/-! ### Where a port matches no rule -/

theorem dataRule_unmatched (hpeek : ∀ k, p ≠ .peekD k) (hlink : p ≠ .link) (s : State) : dataRule p s = noMatchRead s := by
  cases p
  case peekD k => exact absurd rfl (hpeek k)
  case link => exact absurd rfl hlink
  all_goals rfl

theorem skipRule_unmatched (hpeek : ∀ k, p ≠ .peekD k) (hlink : p ≠ .link) (s : State) : skipRule p s = noMatchRead s := by
  cases p
  case peekD k => exact absurd rfl (hpeek k)
  case link => exact absurd rfl hlink
  all_goals rfl

theorem linkArmRule_unmatched (hidle : p ≠ .idle) (hlink : p ≠ .link) (s : State) : linkArmRule p s = noMatchRead s := by
  cases p
  case idle => exact absurd rfl hidle
  case link => exact absurd rfl hlink
  all_goals rfl

theorem triggerRule_unmatched (hidle : p ≠ .idle) (hlink : p ≠ .link) (s : State) : triggerRule p s = noMatchWrite s := by
  cases p
  case idle => exact absurd rfl hidle
  case link => exact absurd rfl hlink
  all_goals rfl

theorem serialRule_unmatched (h : p = .idle ∨ (∃ k, p = .peekD k) ∨ p = .link ∨ p = .fault) (b : Byte) (s : State) :
    serialRule b p s = noMatchWrite s := by
  rcases h with rfl | ⟨k, rfl⟩ | rfl | rfl <;> rfl

/-- Settles O28: each port's rule where it matches nothing, and the wrong-direction kinds. -/
theorem unmatchedAccessesChangeNothing : Obligations.UnmatchedAccessesChangeNothing := by
  intro s p b hs
  refine ⟨fun hpeek hlink => ⟨?_, ?_⟩, fun hidle hlink => ⟨?_, ?_⟩, fun hp => ?_, rfl, rfl, rfl⟩
  · rw [exec_rdData_of_named hs, dataRule_unmatched hpeek hlink]
    rfl
  · rw [exec_rdSkip_of_named hs, skipRule_unmatched hpeek hlink]
    rfl
  · rw [exec_rdLinkarm_of_named hs, linkArmRule_unmatched hidle hlink]
    rfl
  · rw [exec_wrTrigger_of_named hs, triggerRule_unmatched hidle hlink]
    rfl
  · rw [exec_wrSerial_of_named hs, serialRule_unmatched hp]
    rfl

/-! ### The trigger and the link arm -/

/-- Settles O17: the trigger's rule in `IDLE` and `LINK`, and where it matches nothing. -/
theorem triggerArmsTheOpcode : Obligations.TriggerArmsTheOpcode := by
  intro s b
  constructor
  · rintro (hs | hs) <;>
      rw [exec_wrTrigger_of_named hs] <;>
      rfl
  · intro p hs hidle hlink
    rw [exec_wrTrigger_of_named hs, triggerRule_unmatched hidle hlink]
    rfl

/-- Settles O18: the link arm's rule in `IDLE` and `LINK`, and where it matches nothing. -/
theorem linkArmEntersTheTagPhase : Obligations.LinkArmEntersTheTagPhase := by
  intro s
  constructor
  · rintro (hs | hs) <;>
      rw [exec_rdLinkarm_of_named hs] <;>
      rfl
  · intro p hs hidle hlink
    rw [exec_rdLinkarm_of_named hs, linkArmRule_unmatched hidle hlink]
    rfl

/-! ### Opcode bytes -/

/-- In `OPCODE` an opcode byte goes through the opcode phase. -/
theorem exec_opByte_of_opcode {i : Instr} {b : Byte} (hs : s.state = .named .opcode) (h : encoding i = .opByte b) :
    exec i s = .next (opcodePhase b s) := by
  rw [exec_eq_serialByte (.inr h), serialByte_opcode hs]

/-- Settles O20: each opcode-byte row goes through the opcode phase. -/
theorem opcodeRowsSelectOrFault : Obligations.OpcodeRowsSelectOrFault := by
  intro s hs
  refine ⟨?_, ?_, fun i b _ h h0 h1 => ?_⟩
  · rw [exec_opByte_of_opcode hs rfl, opcodePhase_poke]
    rfl
  · rw [exec_opByte_of_opcode hs rfl, opcodePhase_peek]
    rfl
  · rw [exec_opByte_of_opcode hs h, opcodePhase_illegal h0 h1, raiseFault_eq]

/-! ### Skips -/

/-- Settles O25: a skip is answered as data byte k is, with 0xFF for the byte. -/
theorem peekSkipConsumesALane : Obligations.PeekSkipConsumesALane := by
  intro s
  constructor
  · intro k j hkj hs
    rw [exec_rdSkip_of_named hs, skipRule, peekSkip, afterPeekByte_of_next (nextLane_of_succ hkj)]
    rfl
  · intro hs
    rw [exec_rdSkip_of_named hs, skipRule, peekSkip, afterPeekByte_last]
    rfl

/-- Settles O27: a skip advances the cursor as a link read does. -/
theorem linkSkipAdvancesTheCursor : Obligations.LinkSkipAdvancesTheCursor := by
  intro s hs
  rw [exec_rdSkip_of_named hs, skipRule, linkSkip_eq]
  refine ⟨fun h => ?_, fun i e h he => ?_⟩
  · rw [advance_noEntry h]
  · rw [advance_entry h he]

end Sys2Proof.Machine
end

section
/-! PROOFS. Family 60_exceptions.md: what raises a fault and what it writes (rules R240, R244), and the way out of `FAULT`
(rule R247). -/

namespace Sys2Proof.Machine

variable {i : Instr} {s t : State} {p : ProtocolState} {r : Rule} {b : Byte} {d : DiagEvent}

/-! ### What raises a fault -/

/-- Row T7 alone raises a fault. -/
theorem ruleTable_unsupported : ∀ r ∈ ruleTable, r.effect = .unsupported → r = illegalOpcodeRow := by decide

/-- A row emits an event where its effect raises UnsupportedOpcode. -/
theorem Rule.event_some (h : r.event b = some d) : r.effect = .unsupported ∧ d = ⟨0x01, b⟩ := by
  unfold Rule.event at h
  split at h
  · next he => exact ⟨he, (Option.some.inj h).symm⟩
  · cases h

/-- The two causes of a fault (60_exceptions.md rule R240): a state register that names no state, and an illegal opcode
byte. -/
def FaultCause (i : Instr) (s : State) : Prop :=
  (reachesFsm i = true ∧ ∃ c, s.state = .unnamed c)
    ∨ (s.state = .named .opcode ∧ ∃ b : Byte, 0x02 ≤ b ∧ (encoding i = .write 0x01 b ∨ encoding i = .opByte b))

/-- Row T7 is the access of an illegal opcode byte. -/
theorem faultCause_of_illegalOpcodeRow (hs : s.state = .named p)
    (hf : illegalOpcodeRow.fires p (btwIsWrite (carrier i)) (btwOffset (carrier i)) (btwData (carrier i)) = true) :
    FaultCause i s ∧ returnsByte i = false := by
  obtain ⟨hpre, hdir, hoff, hcond⟩ := Rule.fires_iff.1 hf
  subst hpre
  refine ⟨.inr ⟨hs, _, of_decide_eq_true hcond, encoding_of_carrier_serial hdir.symm hoff.symm⟩, ?_⟩
  rw [returnsByte_eq, ← hdir]
  rfl

/-- An access that emits an event has raised the fault of that event, from one of the two causes. -/
theorem raised_of_diag (h : exec i s = .next t) (hd : t.diag = some d) :
    t = raiseFault d.code d.info (if returnsByte i then some 0xFF else none) s ∧ FaultCause i s := by
  cases exec_effect h with
  | outside _ _ _ hdiag => simp [hdiag] at hd
  | @violation c hi hs =>
    obtain rfl : DiagEvent.mk 0x02 (0x18 + BitVec.ofNat 8 c.val) = d := Option.some.inj hd
    exact ⟨rfl, .inl ⟨hi, c, hs⟩⟩
  | @row p r hs hr hf =>
    obtain ⟨he, rfl⟩ := Rule.event_some hd
    obtain rfl := ruleTable_unsupported r hr he
    obtain ⟨hcause, hwrite⟩ := faultCause_of_illegalOpcodeRow hs hf
    rw [illegalOpcodeRow_apply, hwrite]
    exact ⟨rfl, hcause⟩
  | unmatched hs => cases hd

/-- Each of the two causes raises a fault. -/
theorem diag_of_faultCause (h : exec i s = .next t) (hcause : FaultCause i s) : t.diag.isSome = true := by
  rcases hcause with ⟨hi, c, hs⟩ | ⟨hs, b, hb, he⟩
  · rw [illegalStateCodeRaisesProtocolViolation s c i hs hi] at h
    cases h
    rfl
  · obtain ⟨h0, h1⟩ := (two_le_iff b).1 hb
    rw [exec_eq_serialByte he, serialByte_opcode hs, opcodePhase_illegal h0 h1] at h
    cases h
    rfl

/-- Settles O34: an event has a cause, and a cause gives an event. -/
theorem onlyTheTwoCausesRaiseAFault : Obligations.OnlyTheTwoCausesRaiseAFault := by
  intro i s t h
  refine ⟨fun hd => ?_, diag_of_faultCause h⟩
  obtain ⟨d, hd⟩ := Option.isSome_iff_exists.1 hd
  exact (raised_of_diag h hd).2

/-- Settles O35: what raising a fault writes. -/
theorem raisingWritesOnlyTheFaultRegisters : Obligations.RaisingWritesOnlyTheFaultRegisters := by
  intro i s t d h hd
  exact (raised_of_diag h hd).1

/-- Settles O36: the signals are read off what raising a fault writes. -/
theorem signalsShowTheRaisedFault : Obligations.SignalsShowTheRaisedFault := by
  intro i s t h hvalid
  obtain ⟨d, hd⟩ := Option.isSome_iff_exists.1 hvalid
  obtain ⟨rfl, -⟩ := raised_of_diag h hd
  exact ⟨rfl, rfl⟩

/-! ### The way out of `FAULT` -/

/-- In `FAULT` no access writes anything the PP-FSM holds. -/
theorem exec_fsmPart_of_fault (hs : s.state = .named .fault) (i : Instr) :
    ∃ t, exec i s = .next t ∧ t.fsmPart = s.fsmPart := by
  rcases hi : reachesFsm i
  · obtain ⟨t, ht, hfsm, -, -⟩ := exec_outside_fsm hi s
    exact ⟨t, ht, hfsm⟩
  · exact ⟨_, faultStateIsInert s i hs hi, rfl⟩

theorem execAll_fsmPart_of_fault (is : List Instr) (hs : s.state = .named .fault) :
    ∃ t, execAll is s = .next t ∧ t.fsmPart = s.fsmPart := by
  induction is generalizing s with
  | nil => exact ⟨s, rfl, rfl⟩
  | cons i is ih =>
    obtain ⟨t, ht, hfirst⟩ := exec_fsmPart_of_fault hs i
    obtain ⟨u, hu, hrest⟩ := ih ((state_of_fsmPart hfirst).trans hs)
    exact ⟨u, (execAll_cons_of_next ht is).trans hu, hrest.trans hfirst⟩

theorem step_reset {es : List HostEvent} (h : s.pending = .reset :: es) : step s = .next (resetBlock (s.setPending es)) := by
  simp only [step, h, serve]

/-- Settles O32: accesses keep what `FAULT` recorded, and the reset event gives the reset values. -/
theorem onlyResetLeavesFault : Obligations.OnlyResetLeavesFault := by
  intro is s hs
  refine ⟨execAll_fsmPart_of_fault is hs, fun es hp => ⟨_, step_reset hp, ?_⟩⟩
  rw [resetBlock_eq]
  exact ⟨rfl, rfl, rfl, rfl⟩

end Sys2Proof.Machine
end

section
/-! PROOFS. Whole-machine rules about accesses: which of them change memory (10_state.md, section 5), what the successor state
depends on (10_state.md, section 1), that operations are not aborted (40_framing.md rule R132), how `LINK` is left
(42_tag_link.md, section 4), which reads have side effects (20_memory.md rule R72), and that the PP-FSM and the register file do
not disturb each other (40_framing.md rule R133, 43_register_file.md rule R210). -/

namespace Sys2Proof.Machine

variable {i : Instr} {s s' t t' : State} {p : ProtocolState} {r : Rule} {b : Byte}

/-! ### Memory -/

/-- The bytes that `MemWrite` leaves written depend on the bytes that were written and its operands alone. -/
theorem memWrite_mem_congr (h : s.mem = s'.mem) (a v : Word) : (memWrite s a v).mem = (memWrite s' a v).mem := by
  rw [memWrite_mem, memWrite_mem, h]

@[simp] theorem memWrite_memFill (s : State) (a v : Word) : (memWrite s a v).memFill = s.memFill := by
  rw [memWrite_eq, State.setMem_memFill]

/-- `MemRead` after `MemWrite` (20_memory.md rules R66, R67). -/
theorem memRead_memWrite (s : State) (a v x : Word) :
    memRead (memWrite s a v) x
      = if inRange a.toNat = true ∧ inRange x.toNat = true ∧ wordIndex x.toNat = wordIndex a.toNat then v
        else memRead s x := by
  rcases hx : inRange x.toNat
  · simp [memRead_outOfRange hx]
  · simp [memRead_inRange hx, memWord_memWrite]

/-- Only the store of a POKE's last value byte changes memory. -/
theorem Effect.apply_mem (e : Effect) (b : Byte) (s : State) :
    (e.apply b s).mem = if e = .valLaneStore then (memWrite s s.addr (setByte s.val 3 b)).mem else s.mem := by
  cases e
  case valLaneStore =>
    rw [if_pos rfl]
    exact memWrite_mem_congr (s := s.setVal (setByte s.val 3 b)) (s' := s) rfl s.addr (setByte s.val 3 b)
  case advanceCursor =>
    rw [Effect.apply, advance_eq]
    rfl
  all_goals rfl

/-- Row T11 alone stores. -/
theorem ruleTable_store :
    ∀ r ∈ ruleTable, r.effect = .valLaneStore → r.pre = .pokeV 3 ∧ r.isWrite = true ∧ r.off = 0x01 := by decide

/-- No access changes the content under the words no POKE has written. -/
theorem exec_memFill (h : exec i s = .next t) : t.memFill = s.memFill := by
  cases exec_effect h with
  | outside _ hfsm _ _ =>
    obtain ⟨-, -, -, -, -, -, -, hfill, -⟩ := fsmPart_eq_iff.1 hfsm
    exact hfill
  | violation _ _ => rfl
  | @row p r _ _ _ => exact r.apply_memFill _ s
  | unmatched _ => rfl

/-- An access leaves memory, or it is the last value byte of a POKE and stores at `ADDR`. -/
theorem exec_mem_cases (h : exec i s = .next t) :
    t.mem = s.mem
      ∨ (s.state = .named (.pokeV 3) ∧ (∃ b, encoding i = .write 0x01 b ∨ encoding i = .opByte b)
        ∧ ∃ v, t.mem = (memWrite s s.addr v).mem) := by
  cases exec_effect h with
  | outside _ hfsm _ _ =>
    obtain ⟨-, -, -, -, -, -, hmem, -⟩ := fsmPart_eq_iff.1 hfsm
    exact .inl hmem
  | violation _ _ => exact .inl rfl
  | @row p r hs hr hf =>
    rw [Rule.apply_mem, Effect.apply_mem]
    split_ifs with he
    · obtain ⟨hpre, hdir, hoff⟩ := ruleTable_store r hr he
      obtain ⟨rfl, rdir, roff, -⟩ := Rule.fires_iff.1 hf
      have hserial := encoding_of_carrier_serial (rdir.symm.trans hdir) (roff.symm.trans hoff)
      exact .inr ⟨hpre ▸ hs, ⟨_, hserial⟩, _, rfl⟩
    · exact .inl rfl
  | unmatched _ => exact .inl rfl

/-- Settles O42: the two cases of `exec_mem_cases`, and what is read after a store. -/
theorem onlyACompletedPokeChangesMemory : Obligations.OnlyACompletedPokeChangesMemory := by
  intro i s t a h hne
  have hfill : t.memFill = s.memFill := exec_memFill h
  rcases exec_mem_cases h with hmem | ⟨hs, hserial, v, hmem⟩
  · exact absurd (by rw [memByte, memByte, memRead_congr hmem hfill]) hne
  · have hread : memRead t a = memRead (memWrite s s.addr v) a :=
      memRead_congr hmem (hfill.trans (memWrite_memFill s s.addr v).symm) a
    rw [memByte, memByte, hread, memRead_memWrite] at hne
    split_ifs at hne with hcond
    · obtain ⟨haddr, ha, hword⟩ := hcond
      obtain ⟨haddr0, haddr1⟩ := (inRange_iff _).1 haddr
      obtain ⟨ha0, ha1⟩ := (inRange_iff _).1 ha
      exact ⟨hs, hserial, haddr0, haddr1, ha0, ha1, hword⟩
    · exact absurd rfl hne

/-! ### The successor state -/

/-- The state register after an access, from the state register before it. -/
def successor (i : Instr) (q : StateReg) : StateReg :=
  if reachesFsm i then
    match q with
    | .unnamed _ => .named .fault
    | .named p =>
      ((matchingRow p (btwIsWrite (carrier i)) (btwOffset (carrier i)) (btwData (carrier i))).map
        fun r => StateReg.named r.post).getD q
  else q

theorem scanTable_state (hs : s.state = .named p) (isWrite : Bool) (off : BitVec 5) (b : Byte) :
    (scanTable p isWrite off b s).state
      = ((matchingRow p isWrite off b).map fun r => StateReg.named r.post).getD (.named p) := by
  unfold scanTable
  split
  · next r hm => simp [hm]
  · next hm => simp [hm, hs]

/-- The successor state is a function of the state register and the access. -/
theorem exec_state (h : exec i s = .next t) : t.state = successor i s.state := by
  rcases hi : reachesFsm i
  · obtain ⟨u, hu, hfsm, -, -⟩ := exec_outside_fsm hi s
    obtain rfl : u = t := by simpa [hu] using h
    simp [successor, hi, state_of_fsmPart hfsm]
  rcases hs : s.state with p | c
  · rw [exec_eq_scanTable hi hs] at h
    cases h
    simp [successor, hi, scanTable_state hs]
  · rw [illegalStateCodeRaisesProtocolViolation s c i hs hi] at h
    cases h
    simp [successor, hi]

/-- Settles O55: equal state registers have equal successors. -/
theorem successorDependsOnStateAndAccessOnly : Obligations.SuccessorDependsOnStateAndAccessOnly := by
  intro i s s' t t' hs h h'
  rw [exec_state h, exec_state h', hs]

/-- A row of a phase leads to the next phase. -/
theorem ruleTable_nextPhase : ∀ r ∈ ruleTable, nextPhase r.pre = none ∨ nextPhase r.pre = some r.post := by decide

/-- A row of `OPCODE` starts an operation, or faults. -/
theorem ruleTable_opcode :
    ∀ r ∈ ruleTable, r.pre = .opcode → r.post = .pokeA 0 ∨ r.post = .peekA 0 ∨ r.post = .fault := by decide

/-- An access leaves a named state, or takes a row of the table from it to the row's next state. -/
theorem exec_state_cases (hs : s.state = .named p) (h : exec i s = .next t) :
    t.state = .named p ∨ ∃ r ∈ ruleTable, r.pre = p ∧ t.state = .named r.post := by
  cases exec_effect h with
  | outside _ hfsm _ _ => exact .inl ((state_of_fsmPart hfsm).trans hs)
  | violation _ hc => cases hs.symm.trans hc
  | @row q r hq hr hf =>
    obtain ⟨hpre, -, -, -⟩ := Rule.fires_iff.1 hf
    obtain rfl : p = q := StateReg.named.inj (hs.symm.trans hq)
    exact .inr ⟨r, hr, hpre, rfl⟩
  | unmatched _ => exact .inl hs

/-- Settles O56: where each row leads. -/
theorem noAccessAbortsAnOperation : Obligations.NoAccessAbortsAnOperation := by
  intro i s t p hs h
  rcases exec_state_cases hs h with hstay | ⟨r, hr, rfl, hpost⟩
  · refine ⟨fun _ _ => .inl hstay, ?_⟩
    rintro rfl
    exact .inl hstay
  · rw [hpost]
    refine ⟨fun q hq => .inr ?_, fun hop => .inr ?_⟩
    · rcases ruleTable_nextPhase r hr with hnone | hsome
      · rw [hnone] at hq
        cases hq
      · rw [Option.some.inj (hsome.symm.trans hq)]
    · simpa using ruleTable_opcode r hr hop

/-! ### Leaving `LINK` -/

/-- What an access does in `LINK`: it stays at the entry, or it is the trigger or the link arm and drops the cursor. -/
theorem exec_link_cases (hs : s.state = .named .link) (h : exec i s = .next t) :
    (t.state = .named .link ∧ t.linkEnt = s.linkEnt)
      ∨ ((∃ b, i = .wrTrigger b) ∧ t.state = .named .opcode ∧ t.linkEnt = none ∧ t.linkOff = 0)
      ∨ (i = .rdLinkarm ∧ t.state = .named (.tagT 0) ∧ t.linkEnt = none ∧ t.linkOff = 0) := by
  rcases hi : reachesFsm i
  · obtain ⟨u, hu, hfsm, -, -⟩ := exec_outside_fsm hi s
    obtain rfl : u = t := by simpa [hu] using h
    obtain ⟨hstate, -, -, -, hent, -⟩ := fsmPart_eq_iff.1 hfsm
    exact .inl ⟨hstate.trans hs, hent⟩
  rcases reachesFsm_cases hi with rfl | rfl | rfl | ⟨b, rfl⟩ | ⟨b, hb⟩
  · rw [exec_rdData_of_named hs, dataRule, linkRead_eq] at h
    cases h
    exact .inl ⟨hs, rfl⟩
  · rw [exec_rdSkip_of_named hs, skipRule, linkSkip_eq] at h
    cases h
    exact .inl ⟨hs, rfl⟩
  · rw [exec_rdLinkarm_of_named hs, linkArmRule] at h
    cases h
    exact .inr (.inr ⟨rfl, rfl, rfl, rfl⟩)
  · rw [exec_wrTrigger_of_named hs, triggerRule] at h
    cases h
    exact .inr (.inl ⟨⟨b, rfl⟩, rfl, rfl, rfl⟩)
  · rw [exec_eq_serialByte hb, ← exec_wrSerial, exec_wrSerial_of_named hs, serialRule] at h
    cases h
    exact .inl ⟨hs, rfl⟩

/-- Settles O57: the accesses by `exec_link_cases`, and each other event by what it gives. -/
theorem linkIsLeftOnlyByTriggerArmOrReset : Obligations.LinkIsLeftOnlyByTriggerArmOrReset := by
  refine ⟨fun i s t hs h => exec_link_cases hs h, fun s es _ hp => ⟨_, step_reset hp, rfl, rfl, rfl⟩, fun s t hs h => ?_⟩
  rcases step_next_cases h with ⟨-, rfl⟩ | ⟨_, _, -, rfl⟩ | ⟨i, _, es, -, hexec⟩ | ⟨es, hp, rfl⟩ | ⟨saved, es, hp, rfl⟩
    | ⟨c, es, hp, -, rfl⟩
  · exact .inl ⟨hs, rfl⟩
  · exact .inl ⟨hs, rfl⟩
  · rcases exec_link_cases (s := s.setPending es) hs hexec with hstay | ⟨-, hstate, hcursor⟩ | ⟨-, hstate, hcursor⟩
    · exact .inl hstay
    · exact .inr (.inl ⟨.inl hstate, hcursor⟩)
    · exact .inr (.inl ⟨.inr hstate, hcursor⟩)
  · exact .inr (.inr ⟨⟨es, .inl hp⟩, rfl, rfl, rfl⟩)
  · exact .inr (.inr ⟨⟨es, .inr (.inl ⟨saved, hp⟩)⟩, rfl, rfl, rfl⟩)
  · exact .inr (.inr ⟨⟨es, .inr (.inr ⟨c, hp⟩)⟩, rfl, rfl, rfl⟩)

/-! ### Reads -/

theorem RegisterCell.returnsByte_write (q : RegisterCell) (b : Byte) : returnsByte (q.write b) = false := by
  cases q <;> rfl

theorem RegisterCell.returnsByte_read (q : RegisterCell) : returnsByte q.read = true := by
  cases q <;> rfl

/-- A read that does not reach the PP-FSM returns a byte and does nothing else. -/
theorem exec_read_outside_fsm (hi : reachesFsm i = false) (hread : returnsByte i = true) (s : State) :
    ∃ b, exec i s = .next (s.reply (some b)) := by
  rcases hcell : accessesCell i
  · refine ⟨0xFF, ?_⟩
    rw [exec_noOp (by simp [isNoOp, hi, hcell]), hread]
    rfl
  · obtain ⟨q, rfl | ⟨b, rfl⟩⟩ := RegisterCell.accessesCell_cases hcell
    · exact ⟨_, q.exec_read s⟩
    · simp [q.returnsByte_write] at hread

/-- A write that does not reach the PP-FSM returns no byte. -/
theorem exec_write_outside_fsm (hi : reachesFsm i = false) (hwrite : returnsByte i = false) (s : State) :
    ∃ t, exec i s = .next t ∧ t.rdata = none := by
  rcases hcell : accessesCell i
  · refine ⟨_, exec_noOp (by simp [isNoOp, hi, hcell]) s, ?_⟩
    rw [hwrite]
    rfl
  · obtain ⟨q, rfl | ⟨b, rfl⟩⟩ := RegisterCell.accessesCell_cases hcell
    · simp [q.returnsByte_read] at hwrite
    · exact ⟨_, q.exec_write b s, rfl⟩

/-- A row's out column is empty exactly for a write. -/
theorem ruleTable_out : ∀ r ∈ ruleTable, (r.out = .dash ↔ r.isWrite = true) := by decide

theorem OutColumn.byte_isSome (o : OutColumn) (s : State) : (o.byte s).isSome = true ↔ o ≠ .dash := by
  cases o <;> simp [OutColumn.byte]

/-- Settles O59: an access outside the PP-FSM by its kind, and one that reaches it by its pre-check or by its row's out
column. -/
theorem everyReadReturnsOneByte : Obligations.EveryReadReturnsOneByte := by
  intro i s t h
  cases exec_effect h with
  | outside hi _ _ _ =>
    rcases hr : returnsByte i
    · obtain ⟨u, hu, hnone⟩ := exec_write_outside_fsm hi hr s
      obtain rfl : u = t := by simpa [hu] using h
      simp [hnone]
    · obtain ⟨b, hb⟩ := exec_read_outside_fsm hi hr s
      obtain rfl : s.reply (some b) = t := by simpa [hb] using h
      rfl
  | violation _ _ => cases returnsByte i <;> rfl
  | @row p r _ hr hf =>
    obtain ⟨-, hdir, -, -⟩ := Rule.fires_iff.1 hf
    rw [Bool.eq_iff_iff, Rule.apply_rdata, OutColumn.byte_isSome, ne_eq, ruleTable_out r hr, returnsByte_eq, ← hdir]
    simp
  | unmatched _ => cases returnsByte i <;> rfl

/-- Settles O58: every other read only replies. -/
theorem onlyTheseReadsHaveSideEffects : Obligations.OnlyTheseReadsHaveSideEffects := by
  intro i s t p hs hread h hne
  have changes : ∀ out, exec i s ≠ .next (s.reply out) := by
    intro out hout
    rw [hout] at h
    cases h
    exact hne rfl
  rcases hi : reachesFsm i
  · obtain ⟨b, hb⟩ := exec_read_outside_fsm hi hread s
    exact absurd hb (changes _)
  rcases reachesFsm_cases hi with rfl | rfl | rfl | ⟨b, rfl⟩ | ⟨b, hb | hb⟩
  · refine .inl ⟨.inl rfl, ?_⟩
    by_contra hp
    obtain ⟨hpeek, hlink⟩ := not_or.1 hp
    exact changes (some 0xFF) (by rw [exec_rdData_of_named hs, dataRule_unmatched (not_exists.1 hpeek) hlink]; rfl)
  · refine .inl ⟨.inr rfl, ?_⟩
    by_contra hp
    obtain ⟨hpeek, hlink⟩ := not_or.1 hp
    exact changes (some 0xFF) (by rw [exec_rdSkip_of_named hs, skipRule_unmatched (not_exists.1 hpeek) hlink]; rfl)
  · refine .inr ⟨rfl, ?_⟩
    by_contra hp
    obtain ⟨hidle, hlink⟩ := not_or.1 hp
    exact changes (some 0xFF) (by rw [exec_rdLinkarm_of_named hs, linkArmRule_unmatched hidle hlink]; rfl)
  · cases hread
  · simp [returnsByte, hb] at hread
  · simp [returnsByte, hb] at hread

/-! ### Noninterference -/

/-- Where some accesses leave a view of the state, and what the others make of the view depends on the view alone, the view
after a run is what the others alone make of it. -/
theorem execAll_filter_congr {α : Type} {view : State → α} {keep : Instr → Bool}
    (kept : ∀ i s s', keep i = true → view s = view s' →
      ∃ t t', exec i s = .next t ∧ exec i s' = .next t' ∧ view t = view t')
    (dropped : ∀ i s, keep i = false → ∃ t, exec i s = .next t ∧ view t = view s)
    (is : List Instr) (h : view s = view s') :
    ∃ t t', execAll is s = .next t ∧ execAll (is.filter keep) s' = .next t' ∧ view t = view t' := by
  induction is generalizing s s' with
  | nil => exact ⟨s, s', rfl, rfl, h⟩
  | cons i is ih =>
    rcases hi : keep i
    · obtain ⟨u, hu, hview⟩ := dropped i s hi
      rw [List.filter_cons_of_neg (by simp [hi]), execAll_cons_of_next hu]
      exact ih (hview.trans h)
    · obtain ⟨u, u', hu, hu', hview⟩ := kept i s s' hi h
      rw [List.filter_cons_of_pos hi, execAll_cons_of_next hu, execAll_cons_of_next hu']
      exact ih hview

theorem memWrite_fsmPart (s : State) (a v : Word) : (memWrite s a v).fsmPart = (memWrite s.fsmPart a v).fsmPart := by
  rw [memWrite_eq s, memWrite_eq s.fsmPart, memWrite_mem_congr (s := s.fsmPart) (s' := s) rfl]
  rfl

theorem advance_linkOff_congr (hent : s.linkEnt = s'.linkEnt) (hoff : s.linkOff = s'.linkOff) (hcfg : s.cfg = s'.cfg) :
    (advance s).linkOff = (advance s').linkOff := by
  simp only [advance, hent, hoff, hcfg]
  split
  · exact hoff
  · split
    · rfl
    · exact hoff

theorem advance_fsmPart (s : State) : (advance s).fsmPart = (advance s.fsmPart).fsmPart := by
  rw [advance_eq s, advance_eq s.fsmPart, advance_linkOff_congr (s := s.fsmPart) (s' := s) rfl rfl rfl]
  rfl

/-- What the effect column makes of the PP-FSM's part depends on that part alone. -/
theorem Effect.apply_fsmPart (e : Effect) (b : Byte) (s : State) : (e.apply b s).fsmPart = (e.apply b s.fsmPart).fsmPart := by
  cases e
  case valLaneStore => exact memWrite_fsmPart (s.setVal (setByte s.val 3 b)) s.addr (setByte s.val 3 b)
  case advanceCursor => exact advance_fsmPart s
  all_goals rfl

theorem Rule.apply_fsmPart (r : Rule) (b : Byte) (s : State) : (r.apply b s).fsmPart = (r.apply b s.fsmPart).fsmPart :=
  congrArg (fun u : State => u.goto r.post) (r.effect.apply_fsmPart b s)

theorem scanTable_fsmPart (p : ProtocolState) (isWrite : Bool) (off : BitVec 5) (b : Byte) (s : State) :
    (scanTable p isWrite off b s).fsmPart = (scanTable p isWrite off b s.fsmPart).fsmPart := by
  unfold scanTable
  split
  · next r _ => exact r.apply_fsmPart b s
  · rfl

/-- What an access makes of the PP-FSM's part depends on that part alone. -/
theorem exec_fsmPart_congr (hi : reachesFsm i = true) (h : s.fsmPart = s'.fsmPart) :
    ∃ t t', exec i s = .next t ∧ exec i s' = .next t' ∧ t.fsmPart = t'.fsmPart := by
  have hstate : s.state = s'.state := state_of_fsmPart h
  rcases hs : s'.state with p | c
  · refine ⟨_, _, exec_eq_scanTable hi (hstate.trans hs), exec_eq_scanTable hi hs, ?_⟩
    rw [scanTable_fsmPart, h, ← scanTable_fsmPart]
  · obtain ⟨rule, hrule⟩ := exec_eq_ppAccess hi
    refine ⟨_, _, hrule s, hrule s', ?_⟩
    rw [ppAccess_unnamed (hstate.trans hs), ppAccess_unnamed hs]
    exact congrArg (fun u : State => (u.goto .fault).setFault 0x02 (0x18 + BitVec.ofNat 8 c.val)) h

/-- Settles O53: accesses that do not reach the PP-FSM leave its part, and the others see nothing else. -/
theorem interleavedAccessesDoNotDisturbTheFsm : Obligations.InterleavedAccessesDoNotDisturbTheFsm := by
  intro is s
  refine execAll_filter_congr (fun i s s' => exec_fsmPart_congr) (fun i s hi => ?_) is rfl
  obtain ⟨t, ht, hfsm, -, -⟩ := exec_outside_fsm hi s
  exact ⟨t, ht, hfsm⟩

theorem RegisterCell.cells_store_congr (q : RegisterCell) (b : Byte) (h : s.cells = s'.cells) :
    (q.store b s).cells = (q.store b s').cells := by
  cases q <;> simp_all [RegisterCell.store, State.cells]

/-- What a cell access makes of the register file depends on the register file alone. -/
theorem exec_cells_congr (hi : accessesCell i = true) (h : s.cells = s'.cells) :
    ∃ t t', exec i s = .next t ∧ exec i s' = .next t' ∧ t.cells = t'.cells := by
  obtain ⟨q, rfl | ⟨b, rfl⟩⟩ := RegisterCell.accessesCell_cases hi
  · exact ⟨_, _, q.exec_read s, q.exec_read s', h⟩
  · exact ⟨_, _, q.exec_write b s, q.exec_write b s', q.cells_store_congr b h⟩

/-- An access that is not a cell's leaves the register file. -/
theorem exec_cells_of_not_accessesCell (hi : accessesCell i = false) (s : State) :
    ∃ t, exec i s = .next t ∧ t.cells = s.cells := by
  rcases exec_cells_cases i s with hkept | ⟨q, b, rfl⟩
  · exact hkept
  · cases q <;> cases hi

theorem reachesFsm_of_accessesCell (hi : accessesCell i = true) : reachesFsm i = false := by
  obtain ⟨q, rfl | ⟨b, rfl⟩⟩ := RegisterCell.accessesCell_cases hi <;> cases q <;> rfl

/-- Settles O54: the other accesses leave the register file, and a cell access leaves the PP-FSM's part. -/
theorem registerFileIsIndependentOfTheFsm : Obligations.RegisterFileIsIndependentOfTheFsm := by
  intro is s
  refine ⟨execAll_filter_congr (fun i s s' => exec_cells_congr) (fun i s hi => exec_cells_of_not_accessesCell hi s) is rfl,
    fun i hi => ?_⟩
  obtain ⟨t, ht, hfsm, hpending, -⟩ := exec_outside_fsm (reachesFsm_of_accessesCell hi) s
  exact ⟨t, ht, hfsm, hpending⟩

end Sys2Proof.Machine
end

section
/-! PROOFS. The events: what a step answers (00_scope.md rule R24, 20_memory.md rule R61), what changes the configuration
(10_state.md rule R43), the reset event, restore and power-on (70_reset_and_hazards.md rules R280, R283, R288), and the codes of
the state register (10_state.md rule R46). -/

namespace Sys2Proof.Machine

variable {i : Instr} {s t : State} {es : List HostEvent}

/-! ### What a step answers -/

theorem step_waiting (h : s.pending = []) : step s = .next (notReached s) := by simp only [step, h]

/-- The step that serves an access outside the port window does nothing but take it from the list. -/
theorem step_outside_window {e : HostEvent} {p : Nat} {b : Byte} (hp : p < s.cfg.portBase ∨ s.cfg.portBase + 0x20 ≤ p)
    (he : e = .read p ∨ e = .write p b ∨ e = .readWrite p b) (h : s.pending = e :: es) :
    step s = .next (notReached (s.setPending es)) := by
  rcases he with rfl | rfl | rfl <;>
    simp only [step, h, serve, State.setPending_cfg, busSelect_outside hp]

/-- Settles O8: the waiting step, and the step that serves an access outside the window. -/
theorem accessOutsideTheWindowChangesNothing : Obligations.AccessOutsideTheWindowChangesNothing := by
  intro s es p b e
  exact ⟨step_waiting, step_outside_window⟩

/-- The step that serves an activation with both strobes inside the port window is refused (30_encoding.md rule R92). -/
theorem step_bothStrobes {p : Nat} {b : Byte} {off : BitVec 5} (h : s.pending = .readWrite p b :: es)
    (hp : busSelect s.cfg.portBase p = some off) : step s = .refused .bothStrobes := by
  simp only [step, h, serve, State.setPending_cfg, hp]

theorem step_restore {saved : Snapshot} (h : s.pending = .restore saved :: es) :
    step s = .next (restoreSnapshot saved (s.setPending es)) := by
  simp only [step, h, serve]

/-- The step that serves a read or a write completes: the access reaches no instruction, or one that answers. -/
theorem step_access_next {e : HostEvent} {p : Nat} (he : e = .read p ∨ ∃ b, e = .write p b) (h : s.pending = e :: es) :
    ∃ t, step s = .next t := by
  rcases he with rfl | ⟨b, rfl⟩ <;> simp only [step, h, serve] <;> split
  · exact exec_next _ _
  · exact ⟨_, rfl⟩
  · exact exec_next _ _
  · exact ⟨_, rfl⟩

/-- Settles O9: one case for each event. -/
theorem stepStopsOnlyOutsideTheContract : Obligations.StepStopsOnlyOutsideTheContract := by
  intro s
  rcases h : s.pending with _ | ⟨e, es⟩
  · exact .inl ⟨_, step_waiting h⟩
  cases e with
  | read p => exact .inl (step_access_next (.inl rfl) h)
  | write p b => exact .inl (step_access_next (.inr ⟨b, rfl⟩) h)
  | readWrite p b =>
    rcases hp : busSelect s.cfg.portBase p with _ | off
    · left
      simp only [step, h, serve, State.setPending_cfg, hp]
      exact ⟨_, rfl⟩
    · exact .inr (.inl ⟨p, b, es, off, rfl, hp, step_bothStrobes h hp⟩)
  | reset => exact .inl ⟨_, step_reset h⟩
  | restore saved => exact .inl ⟨_, step_restore h⟩
  | powerOn c =>
    rw [step_powerOn h]
    rcases hc : c.admissible
    · exact .inr (.inr ⟨c, es, rfl, hc, rfl⟩)
    · exact .inl ⟨_, rfl⟩

/-! ### The configuration -/

/-- No access changes the configuration (10_state.md rule R43). -/
theorem exec_cfg (h : exec i s = .next t) : t.cfg = s.cfg := by
  cases exec_effect h with
  | outside _ hfsm _ _ =>
    obtain ⟨-, -, -, -, -, -, -, -, -, -, hcfg⟩ := fsmPart_eq_iff.1 hfsm
    exact hcfg
  | violation _ _ => rfl
  | @row p r _ _ _ => exact r.apply_cfg _ s
  | unmatched _ => rfl

/-- Settles O11: one case for each thing a step can have done. -/
theorem onlyPowerOnChangesTheConfiguration : Obligations.OnlyPowerOnChangesTheConfiguration := by
  intro s t h
  rcases step_next_cases h with ⟨-, rfl⟩ | ⟨_, _, -, rfl⟩ | ⟨i, _, es, -, hexec⟩ | ⟨es, -, rfl⟩ | ⟨saved, es, -, rfl⟩
    | ⟨c, es, hp, -, rfl⟩
  · exact .inl rfl
  · exact .inl rfl
  · exact .inl (exec_cfg (s := s.setPending es) hexec)
  · exact .inl rfl
  · exact .inl rfl
  · exact .inr ⟨c, es, hp, rfl⟩

/-! ### Reset, restore and power-on -/

/-- Settles O37: what a reset keeps of the power-on values. -/
theorem resetEventGivesTheResetValues : Obligations.ResetEventGivesTheResetValues := by
  intro s es h
  rw [step_reset h, resetBlock_eq]
  rfl

/-- Settles O38: what a restore makes of the power-on values. -/
theorem restoreIsResetThenTheSavedCells : Obligations.RestoreIsResetThenTheSavedCells := by
  intro s s' es h
  rw [step_restore h, restoreSnapshot_eq]
  rfl

/-- Where no POKE has written, a word is its open initial content (20_memory.md rule R80). -/
theorem memWord_unwritten (hmem : s.mem = []) {load : Nat} (hfill : s.memFill = ⟨load, false⟩) (i : Nat) :
    memWord s i = Config.memInit load i := by
  have lane : ∀ k, memLane s i k = byteLane (Config.memInit load i) k := by
    intro k
    rw [memLane, hmem, hfill]
    rfl
  rw [memWord, lane, lane, lane, lane, assemble_byteLanes]

/-- Settles O39: the power-on values, over memory that no POKE has written. -/
theorem powerOnGivesThePowerOnValues : Obligations.PowerOnGivesThePowerOnValues := by
  intro s es c h hc
  refine ⟨_, (step_powerOn h).trans (if_pos hc), fun a ha0 ha1 => ?_,
    rfl, rfl, rfl, rfl, rfl, rfl, rfl, rfl, rfl, rfl, rfl, rfl, rfl, rfl⟩
  rw [memRead_inRange ((inRange_iff _).2 ⟨ha0, ha1⟩), memWord_unwritten rfl rfl]
  rfl

/-- Settles O40: the power-on values with content number 0. -/
theorem resetStateHasThePowerOnValues : Obligations.ResetStateHasThePowerOnValues :=
  ⟨rfl, rfl, rfl, rfl, rfl, rfl, rfl, rfl, rfl, rfl, rfl, rfl, rfl, fun _ _ => memWord_unwritten rfl rfl _⟩

/-! ### The codes of the state register -/

theorem StateReg.ofCode_code (q : StateReg) : StateReg.ofCode q.code = q := by
  cases q with
  | named p =>
    cases p
    case pokeA k | pokeV k | peekA k | peekD k | tagT k => fin_cases k <;> rfl
    all_goals rfl
  | unnamed c => fin_cases c <;> rfl

theorem ProtocolState.code_lt (p : ProtocolState) : p.code < 0x18 := by
  cases p
  case pokeA k | pokeV k | peekA k | peekD k | tagT k => fin_cases k <;> decide
  all_goals decide

theorem StateReg.code_unnamed_not_lt : ∀ c : Fin 8, ¬(StateReg.unnamed c).code < 0x18 := by decide

/-- Settles O60: the two conversions are inverse, and the codes of the named states are those below 0x18. -/
theorem stateCodesNameEachStateOnce : Obligations.StateCodesNameEachStateOnce := by
  refine ⟨StateReg.ofCode_code, by decide, fun q => ?_⟩
  cases q with
  | named p => exact iff_of_true ⟨p, rfl⟩ p.code_lt
  | unnamed c => exact iff_of_false (by rintro ⟨p, ⟨⟩⟩) (StateReg.code_unnamed_not_lt c)

end Sys2Proof.Machine
end

section
/-! PROOFS. The block's invariant (10_state.md rule R40, 41_poke_peek.md rule R152, 42_tag_link.md rule R191, 60_exceptions.md rule
R241, 20_memory.md rule R82): it holds at reset, and every step keeps it. -/

namespace Sys2Proof.Machine

variable {i : Instr} {s t : State} {p : ProtocolState} {r : Rule} {b : Byte} {es : List HostEvent}

/-! ### Memory -/

/-- An access keeps the canonical form of memory. -/
theorem exec_wf (hwf : Memory.wf s.mem = true) (h : exec i s = .next t) : Memory.wf t.mem = true := by
  rcases exec_mem_cases h with hmem | ⟨-, -, v, hmem⟩
  · rwa [hmem]
  · rw [hmem]
    exact memWrite_wf hwf s.addr v

/-- Settles O47: one case for each thing a step can have done; a restore and a power-on leave no byte written. -/
theorem everyStepKeepsMemoryCanonical : Obligations.EveryStepKeepsMemoryCanonical := by
  intro s t hwf h
  rcases step_next_cases h with ⟨-, rfl⟩ | ⟨_, _, -, rfl⟩ | ⟨i, _, es, -, hexec⟩ | ⟨es, -, rfl⟩ | ⟨saved, es, -, rfl⟩
    | ⟨c, es, -, -, rfl⟩
  · exact hwf
  · exact hwf
  · exact exec_wf (s := s.setPending es) hwf hexec
  · exact hwf
  · exact Memory.wf_nil
  · exact Memory.wf_nil

/-! ### The cursor -/

/-- The cursor's two conditions (10_state.md rule R40), by cases. -/
theorem cursorInTable_iff :
    s.cursorInTable ↔ (s.linkEnt = none ∧ s.linkOff = 0)
      ∨ ∃ i e, s.linkEnt = some i ∧ s.cfg.tagTable[i]? = some e ∧ s.linkOff ≤ e.payload.length := by
  unfold State.cursorInTable
  rcases s.linkEnt with _ | i <;> simp

/-- The cursor's conditions depend on the cursor and the table alone. -/
theorem cursorInTable_congr (hent : t.linkEnt = s.linkEnt) (hoff : t.linkOff = s.linkOff) (hcfg : t.cfg = s.cfg)
    (h : s.cursorInTable) : t.cursorInTable := by
  rw [cursorInTable_iff] at h ⊢
  rwa [hent, hoff, hcfg]

/-- Advancing keeps the cursor in the table: it stops at the end of the payload (42_tag_link.md rule R186). -/
theorem advance_cursorInTable (h : s.cursorInTable) : (advance s).cursorInTable := by
  rcases cursorInTable_iff.1 h with ⟨hent, -⟩ | ⟨i, e, hent, he, hoff⟩
  · rwa [advance_noEntry hent]
  · rw [advance_entry hent he]
    refine cursorInTable_iff.2 (.inr ⟨i, e, hent, he, ?_⟩)
    simp only
    split_ifs <;> omega

/-- A lookup arms the cursor at the beginning of an entry, or at none (42_tag_link.md rule R182). -/
theorem lookup_cursorInTable (s : State) (w : Word) : (s.setCursor (lookup s.cfg w) 0).cursorInTable := by
  rcases h : lookup s.cfg w with _ | i
  · exact cursorInTable_iff.2 (.inl ⟨rfl, rfl⟩)
  · obtain ⟨e, he, -⟩ := lookup_entry h
    exact cursorInTable_iff.2 (.inr ⟨i, e, rfl, he, Nat.zero_le _⟩)

/-- The effects that move the cursor. -/
def Effect.movesCursor : Effect → Bool
  | .dropCursor => true
  | .tagLaneLookup => true
  | .advanceCursor => true
  | _ => false

theorem Effect.apply_cursor_of_not_movesCursor {e : Effect} (h : e.movesCursor = false) (b : Byte) (s : State) :
    (e.apply b s).linkEnt = s.linkEnt ∧ (e.apply b s).linkOff = s.linkOff := by
  cases e
  case valLaneStore =>
    rw [Effect.apply, memWrite_eq]
    exact ⟨rfl, rfl⟩
  case dropCursor | tagLaneLookup | advanceCursor => cases h
  all_goals exact ⟨rfl, rfl⟩

/-- Every effect keeps the cursor in the table. -/
theorem Effect.apply_cursorInTable (e : Effect) (b : Byte) (h : s.cursorInTable) : (e.apply b s).cursorInTable := by
  rcases he : e.movesCursor
  · obtain ⟨hent, hoff⟩ := Effect.apply_cursor_of_not_movesCursor he b s
    exact cursorInTable_congr hent hoff (e.apply_cfg b s) h
  · cases e
    case dropCursor => exact cursorInTable_iff.2 (.inl ⟨rfl, rfl⟩)
    case tagLaneLookup => exact lookup_cursorInTable (s.setTag (setByte s.tag 3 b)) _
    case advanceCursor => exact advance_cursorInTable h
    all_goals cases he

/-- A row ends in `LINK`, or drops the cursor, or leaves it as it was outside `LINK`. -/
theorem ruleTable_cursor :
    ∀ r ∈ ruleTable, r.post = .link ∨ r.effect = .dropCursor ∨ (r.pre ≠ .link ∧ r.effect.movesCursor = false) := by decide

/-- A row leaves the cursor (None, 0) outside `LINK` (42_tag_link.md rule R191). -/
theorem Rule.apply_cursorOnlyInLink (hr : r ∈ ruleTable) (hs : s.state = .named r.pre) (h : s.cursorOnlyInLink)
    (b : Byte) : (r.apply b s).cursorOnlyInLink := by
  intro hlink
  rcases ruleTable_cursor r hr with hpost | hdrop | ⟨hpre, hkept⟩
  · rw [Rule.apply_state, hpost] at hlink
    exact absurd rfl hlink
  · rw [Rule.apply_linkEnt, Rule.apply_linkOff, hdrop]
    exact ⟨rfl, rfl⟩
  · obtain ⟨hent, hoff⟩ := Effect.apply_cursor_of_not_movesCursor hkept b s
    rw [Rule.apply_linkEnt, Rule.apply_linkOff, hent, hoff]
    exact h (by simpa [hs] using hpre)

/-! ### The fault registers -/

/-- Outside `FAULT` no fault is recorded. -/
theorem faultRegisters_of_not_fault (h : s.faultRecorded) (hs : s.state ≠ .named .fault) :
    s.faultCode = 0x00 ∧ s.faultInfo = 0x00 := by
  rcases h with ⟨-, hcode, hinfo⟩ | ⟨hf, -⟩ | ⟨hf, -⟩
  · exact ⟨hcode, hinfo⟩
  · exact absurd hf hs
  · exact absurd hf hs

theorem Effect.apply_faultRegisters {e : Effect} (h : e ≠ .unsupported) (b : Byte) (s : State) :
    (e.apply b s).faultCode = s.faultCode ∧ (e.apply b s).faultInfo = s.faultInfo := by
  cases e
  case valLaneStore =>
    rw [Effect.apply, memWrite_eq]
    exact ⟨rfl, rfl⟩
  case advanceCursor =>
    rw [Effect.apply, advance_eq]
    exact ⟨rfl, rfl⟩
  case unsupported => exact absurd rfl h
  all_goals exact ⟨rfl, rfl⟩

theorem Rule.event_none (h : r.effect ≠ .unsupported) (b : Byte) : r.event b = none := by
  unfold Rule.event
  split
  · next he => exact absurd he h
  · rfl

/-- No row but T7 has to do with `FAULT`. -/
theorem ruleTable_fault :
    ∀ r ∈ ruleTable, r = illegalOpcodeRow ∨ (r.effect ≠ .unsupported ∧ r.pre ≠ .fault ∧ r.post ≠ .fault) := by decide

/-! ### The PEEK latch -/

/-- A row that leads to a data byte of a PEEK fetches the word, or comes from the data byte before. -/
theorem ruleTable_peekD :
    ∀ r ∈ ruleTable, ∀ k, r.post = .peekD k →
      r.effect = .addrLaneFetch ∨ (r.effect = .nothing ∧ ∃ j, r.pre = .peekD j) := by decide

/-- A row keeps the latch equal to the memory word while data bytes are pending (41_poke_peek.md rule R152). -/
theorem Rule.apply_latchFresh (hr : r ∈ ruleTable) (hs : s.state = .named r.pre) (h : s.latchFresh) (b : Byte) :
    (r.apply b s).latchFresh := by
  intro k hk
  rcases ruleTable_peekD r hr k (StateReg.named.inj hk) with hfetch | ⟨hnothing, j, hpre⟩
  · have hmem : (r.apply b s).mem = s.mem := by rw [Rule.apply_mem, hfetch, Effect.apply_mem, if_neg (by decide)]
    rw [memRead_congr hmem (r.apply_memFill b s), Rule.apply_val, Rule.apply_addr, hfetch]
    rfl
  · have hmem : (r.apply b s).mem = s.mem := by rw [Rule.apply_mem, hnothing, Effect.apply_mem, if_neg (by decide)]
    rw [memRead_congr hmem (r.apply_memFill b s), Rule.apply_val, Rule.apply_addr, hnothing]
    exact h j (hs.trans (congrArg StateReg.named hpre))

/-! ### The invariant -/

/-- The invariant depends on what the PP-FSM holds and on the event shown. -/
theorem State.Inv.of_fsmPart (h : s.Inv) (hfsm : t.fsmPart = s.fsmPart) (hevent : t.eventShown) : t.Inv := by
  obtain ⟨hstate, haddr, hval, -, hent, hoff, hmem, hfill, hcode, hinfo, hcfg⟩ := fsmPart_eq_iff.1 hfsm
  constructor
  case named => rw [hstate]; exact h.named
  case memory => rw [hmem]; exact h.memory
  case table => rw [hcfg]; exact h.table
  case cursor => exact cursorInTable_congr hent hoff hcfg h.cursor
  case quiet => rw [State.cursorOnlyInLink, hstate, hent, hoff]; exact h.quiet
  case recorded => rw [State.faultRecorded, hstate, hcode, hinfo]; exact h.recorded
  case unsupportedOnly => rw [hcode]; exact h.unsupportedOnly
  case latch => rw [State.latchFresh, hstate, hval, haddr, memRead_congr hmem hfill]; exact h.latch
  case event => exact hevent

theorem eventShown_of_none (h : t.diag = none) : t.eventShown := by
  intro d hd
  rw [h] at hd
  cases hd

theorem State.Inv.setPending (h : s.Inv) (es : List HostEvent) : (s.setPending es).Inv := h.of_fsmPart rfl h.event

theorem State.Inv.reply (h : s.Inv) (out : Option Byte) : (s.reply out).Inv := h.of_fsmPart rfl (eventShown_of_none rfl)

/-- The power-on values have the invariant over any canonical memory and any admissible configuration. -/
theorem inv_of_powerOn_values (hstate : t.state = .named .idle) (hent : t.linkEnt = none) (hoff : t.linkOff = 0)
    (hcode : t.faultCode = 0x00) (hinfo : t.faultInfo = 0x00) (hdiag : t.diag = none) (hmem : Memory.wf t.mem = true)
    (hcfg : t.cfg.admissible = true) : t.Inv where
  named := ⟨.idle, hstate⟩
  memory := hmem
  table := hcfg
  cursor := cursorInTable_iff.2 (.inl ⟨hent, hoff⟩)
  quiet := fun _ => ⟨hent, hoff⟩
  recorded := .inl ⟨by simp [hstate], hcode, hinfo⟩
  unsupportedOnly := by simp [hcode]
  latch := fun k hk => by simp [hstate] at hk
  event := eventShown_of_none hdiag

/-- Raising UnsupportedOpcode for an illegal opcode byte keeps the invariant. -/
theorem State.Inv.raiseUnsupported (h : s.Inv) (hs : s.state = .named .opcode) (hb : 0x02 ≤ b) (out : Option Byte) :
    (raiseFault 0x01 b out s).Inv where
  named := ⟨.fault, rfl⟩
  memory := h.memory
  table := h.table
  cursor := h.cursor
  quiet := fun _ => h.quiet (by simp [hs])
  recorded := .inr (.inl ⟨rfl, rfl, hb⟩)
  unsupportedOnly := by simp [raiseFault_eq]
  latch := fun k hk => by simp [raiseFault_eq] at hk
  event := by
    rintro d ⟨⟩
    exact ⟨rfl, rfl⟩

/-- A row that matches keeps the invariant. -/
theorem State.Inv.row (h : s.Inv) (hr : r ∈ ruleTable) (hs : s.state = .named r.pre) (hb : r.cond.holds b = true) :
    (r.apply b s).Inv := by
  rcases ruleTable_fault r hr with rfl | ⟨heffect, hpre, hpost⟩
  · rw [illegalOpcodeRow_apply]
    exact h.raiseUnsupported hs (of_decide_eq_true hb) none
  obtain ⟨hcode, hinfo⟩ := Effect.apply_faultRegisters heffect b s
  obtain ⟨hcode0, hinfo0⟩ := faultRegisters_of_not_fault h.recorded (by simpa [hs] using hpre)
  constructor
  case named => exact ⟨r.post, rfl⟩
  case memory =>
    rw [Rule.apply_mem, Effect.apply_mem]
    split_ifs
    · exact memWrite_wf h.memory _ _
    · exact h.memory
  case table => rw [Rule.apply_cfg]; exact h.table
  case cursor => exact cursorInTable_congr rfl rfl rfl (r.effect.apply_cursorInTable b h.cursor)
  case quiet => exact Rule.apply_cursorOnlyInLink hr hs h.quiet b
  case recorded => exact .inl ⟨by simpa using hpost, hcode.trans hcode0, hinfo.trans hinfo0⟩
  case unsupportedOnly => rw [Rule.apply_faultCode, hcode]; exact h.unsupportedOnly
  case latch => exact Rule.apply_latchFresh hr hs h.latch b
  case event => exact eventShown_of_none (Rule.event_none heffect b)

/-- Every access keeps the invariant. -/
theorem State.Inv.exec (h : s.Inv) (ht : exec i s = .next t) : t.Inv := by
  cases exec_effect ht with
  | outside _ hfsm _ hdiag => exact h.of_fsmPart hfsm (eventShown_of_none hdiag)
  | violation _ hs =>
    obtain ⟨p, hp⟩ := h.named
    cases hp.symm.trans hs
  | @row p r hs hr hf =>
    obtain ⟨rfl, -, -, hb⟩ := Rule.fires_iff.1 hf
    exact h.row hr hs hb
  | unmatched _ => exact h.reply _

/-- Settles O44: one case for each thing a step can have done. -/
theorem everyStepKeepsTheInvariant : Obligations.EveryStepKeepsTheInvariant := by
  intro s t h hstep
  rcases step_next_cases hstep with ⟨-, rfl⟩ | ⟨_, es, -, rfl⟩ | ⟨i, _, es, -, hexec⟩ | ⟨es, -, rfl⟩ | ⟨saved, es, -, rfl⟩
    | ⟨c, es, -, hc, rfl⟩
  · exact h.reply none
  · exact (h.setPending es).reply none
  · exact (h.setPending es).exec hexec
  · exact inv_of_powerOn_values rfl rfl rfl rfl rfl rfl h.memory h.table
  · exact inv_of_powerOn_values rfl rfl rfl rfl rfl rfl Memory.wf_nil h.table
  · exact inv_of_powerOn_values rfl rfl rfl rfl rfl rfl Memory.wf_nil hc

/-! ### The reset state -/

/-- The table at reset is admissible: an inadmissible one is left out (log 6). -/
theorem setupAtReset_admissible : Params.setupAtReset.admissible = true := by
  unfold Params.setupAtReset
  simp only
  split_ifs with h
  · exact h
  · rfl

/-- Settles O45: the power-on values with the configuration at reset. -/
theorem resetStateHasTheInvariant : Obligations.ResetStateHasTheInvariant :=
  inv_of_powerOn_values rfl rfl rfl rfl rfl rfl Memory.wf_nil setupAtReset_admissible

/-! ### The range of the cursor -/

/-- No payload of the table is longer than `MAX_PAYLOAD`. -/
theorem payload_length_le_maxPayload {c : Setup} {e : TagEntry} (he : e ∈ c.tagTable) :
    e.payload.length ≤ c.maxPayload := by
  unfold Setup.maxPayload
  generalize c.tagTable = table at he
  induction table with
  | nil => cases he
  | cons d table ih =>
    rw [List.foldr_cons]
    rcases List.mem_cons.1 he with rfl | he
    · exact Nat.le_max_left _ _
    · exact (ih he).trans (Nat.le_max_right _ _)

/-- Settles O46: the cursor's two conditions give both ranges. -/
theorem cursorStaysInItsRange : Obligations.CursorStaysInItsRange := by
  intro s h
  rcases cursorInTable_iff.1 h.cursor with ⟨hent, hoff⟩ | ⟨i, e, hent, he, hoff⟩
  · exact ⟨fun i hi => by simp [hent] at hi, by simp [hoff]⟩
  · refine ⟨fun j hj => ?_, hoff.trans (payload_length_le_maxPayload (List.mem_of_getElem? he))⟩
    obtain rfl : i = j := Option.some.inj (hent.symm.trans hj)
    exact (List.getElem?_eq_some_iff.1 he).1

end Sys2Proof.Machine
end

section
/-! PROOFS. Whole operations (41_poke_peek.md, section 3, 42_tag_link.md, section 4), as runs of the steps that serve their
accesses. -/

namespace Sys2Proof.Machine

variable {s t u : State} {m n : Nat} {out out' : List Byte} {es : List HostEvent} {b : Byte} {w : BitVec 14}

/-! ### Runs -/

/-- `n` steps from `s` end in `t` and return the bytes `out` to the host. -/
def Serves (n : Nat) (s : State) (out : List Byte) (t : State) : Prop :=
  Host.Core.run Sys2Proof.core n s = .next t ∧ returned n s = out

theorem run_succ_of_step (h : step s = .next t) (n : Nat) :
    Host.Core.run Sys2Proof.core (n + 1) s = Host.Core.run Sys2Proof.core n t := by
  have hstep : Sys2Proof.core.step s = .next t := h
  simp only [Host.Core.run, hstep]

theorem returned_succ_of_step (h : step s = .next t) (n : Nat) : returned (n + 1) s = t.rdata.toList ++ returned n t := by
  rw [returned, h]

theorem Serves.refl (s : State) : Serves 0 s [] s := ⟨rfl, rfl⟩

theorem Serves.head (h : step s = .next t) (ht : Serves n t out u) : Serves (n + 1) s (t.rdata.toList ++ out) u := by
  obtain ⟨hrun, hout⟩ := ht
  exact ⟨(run_succ_of_step h n).trans hrun, by rw [returned_succ_of_step h, hout]⟩

/-- A run that ends in a state has a first step. -/
theorem Serves.exists_step (h : Serves (n + 1) s out u) :
    ∃ t out', step s = .next t ∧ Serves n t out' u ∧ out = t.rdata.toList ++ out' := by
  obtain ⟨hrun, rfl⟩ := h
  obtain ⟨t, ht⟩ : ∃ t, step s = .next t := by
    simp only [Host.Core.run] at hrun
    split at hrun
    · next t ht => exact ⟨t, ht⟩
    · cases hrun
    · cases hrun
  exact ⟨t, returned n t, ht, ⟨(run_succ_of_step ht n).symm.trans hrun, rfl⟩, returned_succ_of_step ht n⟩

/-- Two runs, one after the other. -/
theorem Serves.trans (hs : Serves m s out t) (ht : Serves n t out' u) : Serves (m + n) s (out ++ out') u := by
  induction m generalizing s out with
  | zero =>
    obtain ⟨hrun, rfl⟩ := hs
    cases hrun
    simpa [returned] using ht
  | succ m ih =>
    obtain ⟨v, rest, hstep, hv, rfl⟩ := hs.exists_step
    rw [Nat.succ_add, List.append_assoc]
    exact (ih hv).head hstep

/-! ### The step that serves a bus word -/

/-- The step that serves a BTW runs the access it decodes to. -/
theorem step_btw (h : s.pending = eventOfBtw s.cfg.portBase w :: es) : step s = exec (decodeBtw w) (s.setPending es) := by
  unfold eventOfBtw at h
  unfold decodeBtw
  split at h
  · next hw => rw [step_write h, exec_instrAt, decodeBtw_write, if_pos hw]
  · next hw => rw [step_read h, instrAt_read, if_neg hw]

theorem Serves.access (h : s.pending = eventOfBtw s.cfg.portBase w :: es)
    (hexec : exec (decodeBtw w) (s.setPending es) = .next t) : Serves 1 s t.rdata.toList t := by
  simpa using (Serves.refl t).head ((step_btw h).trans hexec)

/-- The step that serves a serial byte. -/
theorem Serves.serial (h : s.pending = eventOfBtw s.cfg.portBase (wr 0x01 b) :: es)
    (ht : serialByte b (s.setPending es) = t) : Serves 1 s t.rdata.toList t :=
  .access h (by rw [← ht, wr, decodeBtw_write]; exact exec_wrSerial b _)

/-- The step that serves a read of the data port. -/
theorem Serves.data (h : s.pending = eventOfBtw s.cfg.portBase (rd 0x00) :: es)
    (ht : exec .rdData (s.setPending es) = .next t) : Serves 1 s t.rdata.toList t :=
  .access h (by rw [← ht, rd, decodeBtw_read]; rfl)

/-! ### Four serial bytes -/

/-- The accumulators an operand can be assembled in (10_state.md rule R30). -/
inductive Accumulator where
  | addr
  | val
  | tag

def Accumulator.get : Accumulator → State → Word
  | addr, s => s.addr
  | val, s => s.val
  | tag, s => s.tag

def Accumulator.put : Accumulator → Word → State → State
  | addr, w, s => s.setAddr w
  | val, w, s => s.setVal w
  | tag, w, s => s.setTag w

/-- The states `phase 0` to `phase 3` fill the lanes of an accumulator, and the last byte then has the effect `finish`. -/
structure FillsAccumulator (phase : Lane → ProtocolState) (acc : Accumulator) (finish : State → State) : Prop where
  next : ∀ {k j : Lane} (b : Byte) {s : State}, nextLane k = some j → s.state = .named (phase k) →
    serialByte b s = ((acc.put (setByte (acc.get s) k b) s).goto (phase j)).reply none
  last : ∀ (b : Byte) {s : State}, s.state = .named (phase 3) →
    serialByte b s = finish (acc.put (setByte (acc.get s) 3 b) s)

/-- A state in which the accumulator has been filled up to lane `k`. -/
def Accumulator.filled (acc : Accumulator) (w : Word) (p : ProtocolState) (es : List HostEvent) (s : State) : State :=
  acc.put w (((s.goto p).reply none).setPending es)

section
variable {phase : Lane → ProtocolState} {acc : Accumulator} {finish : State → State}

theorem Accumulator.state_filled (acc : Accumulator) (w : Word) (p : ProtocolState) (es : List HostEvent) (s : State) :
    (acc.filled w p es s).state = .named p := by
  cases acc <;> rfl

theorem Accumulator.pending_filled (acc : Accumulator) (w : Word) (p : ProtocolState) (es : List HostEvent) (s : State) :
    (acc.filled w p es s).pending = es := by
  cases acc <;> rfl

theorem Accumulator.cfg_filled (acc : Accumulator) (w : Word) (p : ProtocolState) (es : List HostEvent) (s : State) :
    (acc.filled w p es s).cfg = s.cfg := by
  cases acc <;> rfl

theorem Accumulator.setPending_filled (acc : Accumulator) (w : Word) (p : ProtocolState) (es es' : List HostEvent)
    (s : State) : (acc.filled w p es s).setPending es' = acc.filled w p es' s := by
  cases acc <;> rfl

variable {k j : Lane} {v : Word}

/-- The first byte of the operand. -/
theorem FillsAccumulator.serves_first (h : FillsAccumulator phase acc finish) (hs : s.state = .named (phase 0))
    (hp : s.pending = eventOfBtw s.cfg.portBase (wr 0x01 b) :: es) :
    Serves 1 s [] (acc.filled (setByte (acc.get s) 0 b) (phase 1) es s) := by
  have hbyte : serialByte b (s.setPending es) = acc.filled (setByte (acc.get s) 0 b) (phase 1) es s := by
    rw [h.next (s := s.setPending es) b nextLane_zero hs]
    cases acc <;> rfl
  have hserves := Serves.serial hp hbyte
  cases acc <;> exact hserves

/-- A further byte of the operand, but not the last. -/
theorem FillsAccumulator.serves_next (h : FillsAccumulator phase acc finish) (hk : nextLane k = some j) (v : Word) (b : Byte)
    (es : List HostEvent) (s : State) :
    Serves 1 (acc.filled v (phase k) (eventOfBtw s.cfg.portBase (wr 0x01 b) :: es) s) []
      (acc.filled (setByte v k b) (phase j) es s) := by
  have hbyte : serialByte b (acc.filled v (phase k) es s) = acc.filled (setByte v k b) (phase j) es s := by
    rw [h.next b hk (acc.state_filled v (phase k) es s)]
    cases acc <;> rfl
  have hserves := Serves.serial (s := acc.filled v (phase k) (eventOfBtw s.cfg.portBase (wr 0x01 b) :: es) s)
    (by rw [acc.pending_filled, acc.cfg_filled]) ((congrArg _ (acc.setPending_filled v _ _ es s)).trans hbyte)
  cases acc <;> exact hserves

/-- The last byte of the operand. -/
theorem FillsAccumulator.serves_last (h : FillsAccumulator phase acc finish) (v : Word) (b : Byte) (es : List HostEvent)
    (s : State) :
    Serves 1 (acc.filled v (phase 3) (eventOfBtw s.cfg.portBase (wr 0x01 b) :: es) s)
      (finish (acc.filled (setByte v 3 b) (phase 3) es s)).rdata.toList
      (finish (acc.filled (setByte v 3 b) (phase 3) es s)) := by
  have hbyte : serialByte b (acc.filled v (phase 3) es s) = finish (acc.filled (setByte v 3 b) (phase 3) es s) := by
    rw [h.last b (acc.state_filled v (phase 3) es s)]
    cases acc <;> rfl
  exact .serial (by rw [acc.pending_filled, acc.cfg_filled])
    ((congrArg _ (acc.setPending_filled v _ _ es s)).trans hbyte)

theorem wrWord_eq (w : Word) :
    wrWord w = [wr 0x01 (byteLane w 0), wr 0x01 (byteLane w 1), wr 0x01 (byteLane w 2), wr 0x01 (byteLane w 3)] := rfl

/-- The four serial bytes of a word leave it in the accumulator, and end with `finish` (30_encoding.md rule R95). -/
theorem FillsAccumulator.serves_word (h : FillsAccumulator phase acc finish) (hs : s.state = .named (phase 0)) {w : Word}
    (hp : s.pending = (wrWord w).map (eventOfBtw s.cfg.portBase) ++ es)
    (ht : finish (acc.filled w (phase 3) es s) = t) : Serves 4 s t.rdata.toList t := by
  rw [wrWord_eq] at hp
  have hbytes := (((h.serves_first hs hp).trans (h.serves_next nextLane_one _ _ _ s)).trans
    (h.serves_next nextLane_two _ _ _ s)).trans (h.serves_last _ _ es s)
  rw [setByte_four, assemble_byteLanes, ht] at hbytes
  exact hbytes

end

/-! ### The operand phases -/

theorem pokeA_fillsAccumulator : FillsAccumulator .pokeA .addr fun u => (u.goto (.pokeV 0)).reply none where
  next b _ hk hs := by rw [serialByte_pokeA hs, pokeAddressPhase_of_next hk]; rfl
  last b _ hs := serialByte_pokeA hs b

theorem peekA_fillsAccumulator : FillsAccumulator .peekA .addr fun u => (peekFetch u).reply none where
  next b _ hk hs := by rw [serialByte_peekA hs, peekAddressPhase_of_next hk]; rfl
  last b _ hs := serialByte_peekA hs b

theorem pokeV_fillsAccumulator :
    FillsAccumulator .pokeV .val fun u => ((memWrite u u.addr u.val).goto .idle).reply none where
  next b _ hk hs := by rw [serialByte_pokeV hs, pokeValuePhase_of_next hk]; rfl
  last b _ hs := serialByte_pokeV hs b

theorem tagT_fillsAccumulator :
    FillsAccumulator .tagT .tag fun u => ((u.setCursor (lookup u.cfg u.tag) 0).goto .link).reply none where
  next b _ hk hs := by rw [serialByte_tagT hs, tagPhase_of_next hk]; rfl
  last b _ hs := serialByte_tagT hs b

/-- The address bytes of a POKE. -/
theorem serves_pokeAddress {a : Word} (hs : s.state = .named (.pokeA 0))
    (hp : s.pending = (wrWord a).map (eventOfBtw s.cfg.portBase) ++ es) :
    Serves 4 s [] { s with state := .named (.pokeV 0), addr := a, rdata := none, diag := none, pending := es } :=
  pokeA_fillsAccumulator.serves_word hs hp rfl

/-- The address bytes of a PEEK, with the fetch. -/
theorem serves_peekAddress {a : Word} (hs : s.state = .named (.peekA 0))
    (hp : s.pending = (wrWord a).map (eventOfBtw s.cfg.portBase) ++ es) :
    Serves 4 s [] { s with
      state := .named (.peekD 0), addr := a, val := memRead s a, rdata := none, diag := none, pending := es } :=
  peekA_fillsAccumulator.serves_word hs hp rfl

/-- The value bytes of a POKE, with the store. -/
theorem serves_pokeValue {v : Word} {mem : List Host.Cell} (hs : s.state = .named (.pokeV 0))
    (hp : s.pending = (wrWord v).map (eventOfBtw s.cfg.portBase) ++ es) (hmem : (memWrite s s.addr v).mem = mem) :
    Serves 4 s [] { s with state := .named .idle, val := v, mem := mem, rdata := none, diag := none, pending := es } := by
  refine pokeV_fillsAccumulator.serves_word hs hp ?_
  rw [memWrite_eq, memWrite_mem_congr (s := Accumulator.val.filled v (.pokeV 3) es s) (s' := s) rfl, ← hmem]
  rfl

/-- The tag bytes of a link query, with the lookup. -/
theorem serves_tag {w : Word} (hs : s.state = .named (.tagT 0))
    (hp : s.pending = (wrWord w).map (eventOfBtw s.cfg.portBase) ++ es) :
    Serves 4 s [] { s with
      state := .named .link, tag := w, linkEnt := lookup s.cfg w, linkOff := 0, rdata := none, diag := none, pending := es } :=
  tagT_fillsAccumulator.serves_word hs hp rfl

/-! ### How an operation begins -/

/-- The trigger and an opcode byte select the operation. -/
theorem serves_opcode (hs : s.state = .named .idle ∨ s.state = .named .link) {p : ProtocolState}
    (hp : s.pending = eventOfBtw s.cfg.portBase trigAccess :: eventOfBtw s.cfg.portBase (wr 0x01 b) :: es)
    (hop : ∀ u, opcodePhase b u = (u.goto p).reply none) :
    Serves 2 s [] { s with
      state := .named p, linkEnt := none, linkOff := 0, rdata := none, diag := none, pending := es } := by
  have htrigger := Serves.access hp ((congrArg (exec · _) (decodeBtw_write 0x03 0x00)).trans
    ((triggerArmsTheOpcode (s.setPending _) 0x00).1 hs))
  exact htrigger.trans (.serial rfl ((serialByte_opcode rfl b).trans (hop _)))

/-! ### The output of a PEEK -/

/-- The read of data byte k. -/
theorem serves_peekByte {k : Lane} (hs : s.state = .named (.peekD k))
    (hp : s.pending = eventOfBtw s.cfg.portBase (rd 0x00) :: es) :
    Serves 1 s [byteLane s.val k] { s with
      state := .named (afterPeekByte k), rdata := some (byteLane s.val k), diag := none, pending := es } :=
  .data hp (exec_rdData_peekD (s := s.setPending es) hs)

/-- The four reads of a PEEK return the four lanes of the latch. -/
theorem serves_peekData (hs : s.state = .named (.peekD 0))
    (hp : s.pending = (List.replicate 4 (rd 0x00)).map (eventOfBtw s.cfg.portBase) ++ es) :
    Serves 4 s [byteLane s.val 0, byteLane s.val 1, byteLane s.val 2, byteLane s.val 3] { s with
      state := .named .idle, rdata := some (byteLane s.val 3), diag := none, pending := es } :=
  (((serves_peekByte hs hp).trans (serves_peekByte rfl rfl)).trans (serves_peekByte rfl rfl)).trans (serves_peekByte rfl rfl)

/-! ### Whole operations -/

theorem serves_poke {a v : Word} (hs : s.state = .named .idle ∨ s.state = .named .link)
    (hp : s.pending = (pokeAccesses a v).map (eventOfBtw s.cfg.portBase) ++ es) :
    Serves 10 s [] { s with
      state := .named .idle, addr := a, val := v, linkEnt := none, linkOff := 0
      mem := (memWrite s a v).mem, rdata := none, diag := none, pending := es } :=
  ((serves_opcode hs hp opcodePhase_poke).trans (serves_pokeAddress rfl rfl)).trans
    (serves_pokeValue rfl rfl (memWrite_mem_congr (s' := s) (by rfl) a v))

theorem serves_peek {a : Word} (hs : s.state = .named .idle ∨ s.state = .named .link)
    (hp : s.pending = (peekAccesses a).map (eventOfBtw s.cfg.portBase) ++ es) :
    Serves 10 s [byteLane (memRead s a) 0, byteLane (memRead s a) 1, byteLane (memRead s a) 2, byteLane (memRead s a) 3]
      { s with
        state := .named .idle, addr := a, val := memRead s a, linkEnt := none, linkOff := 0
        rdata := some (byteLane (memRead s a) 3), diag := none, pending := es } :=
  ((serves_opcode hs hp opcodePhase_peek).trans (serves_peekAddress rfl rfl)).trans (serves_peekData rfl rfl)

/-- What a PEEK reads in a state with the bytes that a POKE has left written. -/
theorem memRead_of_poked {a v : Word} (hmem : t.mem = (memWrite s a v).mem) (hfill : t.memFill = s.memFill) (x : Word) :
    memRead t x
      = if inRange a.toNat = true ∧ inRange x.toNat = true ∧ wordIndex x.toNat = wordIndex a.toNat then v
        else memRead s x := by
  rw [← memRead_memWrite, memRead_congr hmem (hfill.trans (memWrite_memFill s a v).symm)]

/-- A POKE and a PEEK return the four lanes of what the PEEK reads after the store. -/
theorem returned_poke_peek {a x v : Word} (hs : s.state = .named .idle ∨ s.state = .named .link)
    (hp : s.pending = (pokeAccesses a v ++ peekAccesses x).map (eventOfBtw s.cfg.portBase) ++ es) :
    ∃ t : State, t.mem = (memWrite s a v).mem ∧ t.memFill = s.memFill
      ∧ returned 20 s = [byteLane (memRead t x) 0, byteLane (memRead t x) 1, byteLane (memRead t x) 2,
          byteLane (memRead t x) 3] := by
  rw [List.map_append, List.append_assoc] at hp
  obtain ⟨-, hout⟩ := (serves_poke hs hp).trans (serves_peek (.inl rfl) rfl)
  refine ⟨_, ?_, ?_, hout⟩
  · rfl
  · rfl

/-- Settles O49: the trigger and the opcode byte, the address bytes, the value bytes. -/
theorem wholePokeStoresTheWord : Obligations.WholePokeStoresTheWord :=
  fun _ _ _ _ hs hp => serves_poke hs hp

/-- Settles O50: the trigger and the opcode byte, the address bytes with the fetch, the four reads. -/
theorem wholePeekReturnsTheWord : Obligations.WholePeekReturnsTheWord :=
  fun _ _ _ hs hp => serves_peek hs hp

/-- Settles O51: what the PEEK reads after the store is the word stored, or `OOR_WORD`. -/
theorem pokeThenPeekReturnsThePokedWord : Obligations.PokeThenPeekReturnsThePokedWord := by
  intro s a x v es hs hp
  obtain ⟨t, hmem, hfill, hout⟩ := returned_poke_peek hs hp
  constructor
  · intro ha hword hx
    have hxr : 0x80000000 ≤ x.toNat ∧ x.toNat < 0x80200000 := ⟨hx, by omega⟩
    have hread : memRead t x = v := by
      rw [memRead_of_poked hmem hfill, if_pos]
      exact ⟨(inRange_iff _).2 ha, (inRange_iff _).2 hxr, hword⟩
    rw [hout, hread]
  · intro hx
    have hread : memRead t x = Params.oorWord := memRead_outOfRange (Bool.eq_false_iff.2 (mt (inRange_iff _).1 hx))
    rw [hout, hread]
    decide

/-! ### A link query -/

/-- The payload at the cursor's entry: no byte where there is no entry. -/
def cursorPayload (c : Setup) : Option Nat → List Byte
  | none => []
  | some i => payloadOf c i

theorem cursorPayload_entry {c : Setup} {i : Nat} {e : TagEntry} (he : c.tagTable[i]? = some e) :
    cursorPayload c (some i) = e.payload := by
  simp only [cursorPayload, payloadOf, he]

/-- A link read returns the payload byte at the cursor and advances, or the filler past the end (42_tag_link.md rules R184,
R186). -/
theorem linkRead_eq_payload (s : State) :
    linkRead s = { s with
      linkOff := if s.linkOff < (cursorPayload s.cfg s.linkEnt).length then s.linkOff + 1 else s.linkOff
      rdata := some ((cursorPayload s.cfg s.linkEnt).getD s.linkOff 0x5A), diag := none } := by
  rw [linkRead_eq]
  rcases h : s.linkEnt with _ | i
  · rw [advance_noEntry h]
    rfl
  · have hoff : (advance s).linkOff = if s.linkOff < (payloadOf s.cfg i).length then s.linkOff + 1 else s.linkOff := by
      simp only [advance, h]
      split_ifs <;> rfl
    rw [hoff]
    rfl

/-- The bytes of `m` reads of a payload from offset `o`: what is left of it, then the filler. -/
def linkBytes (payload : List Byte) (o m : Nat) : List Byte :=
  (payload.drop o).take m ++ List.replicate (m - (payload.length - o)) 0x5A

theorem linkBytes_zero (payload : List Byte) (o : Nat) : linkBytes payload o 0 = [] := by
  simp [linkBytes]

theorem linkBytes_succ (payload : List Byte) (o m : Nat) :
    linkBytes payload o (m + 1)
      = payload.getD o 0x5A :: linkBytes payload (if o < payload.length then o + 1 else o) m := by
  unfold linkBytes
  split_ifs with h
  · rw [List.drop_eq_getElem_cons h, List.take_succ_cons, List.cons_append, List.getD_eq_getElem _ _ h]
    congr 3
    omega
  · have hpast : payload.length ≤ o := Nat.le_of_not_lt h
    rw [List.drop_eq_nil_of_le hpast, List.getD_eq_default _ _ hpast, Nat.sub_eq_zero_of_le hpast]
    simp [List.replicate_succ]

/-- The step that serves a link read. -/
theorem serves_linkRead (hs : s.state = .named .link) (hp : s.pending = eventOfBtw s.cfg.portBase (rd 0x00) :: es) :
    Serves 1 s [(cursorPayload s.cfg s.linkEnt).getD s.linkOff 0x5A] { s with
      linkOff := if s.linkOff < (cursorPayload s.cfg s.linkEnt).length then s.linkOff + 1 else s.linkOff
      rdata := some ((cursorPayload s.cfg s.linkEnt).getD s.linkOff 0x5A), diag := none, pending := es } :=
  .data hp ((exec_rdData_link (s := s.setPending es) hs).trans (congrArg _ (linkRead_eq_payload _)))

/-- Any number of link reads drain the payload from the cursor on. -/
theorem serves_linkReads (m : Nat) (hs : s.state = .named .link)
    (hp : s.pending = (List.replicate m (rd 0x00)).map (eventOfBtw s.cfg.portBase) ++ es) :
    ∃ t, Serves m s (linkBytes (cursorPayload s.cfg s.linkEnt) s.linkOff m) t ∧ t.state = .named .link ∧ t.tag = s.tag
      ∧ t.linkEnt = s.linkEnt ∧ t.pending = es := by
  induction m generalizing s with
  | zero => exact ⟨s, by rw [linkBytes_zero]; exact .refl s, hs, rfl, rfl, hp⟩
  | succ m ih =>
    have hread := serves_linkRead hs hp
    obtain ⟨t, ht, hend⟩ := ih (s := { s with
      linkOff := if s.linkOff < (cursorPayload s.cfg s.linkEnt).length then s.linkOff + 1 else s.linkOff
      rdata := some ((cursorPayload s.cfg s.linkEnt).getD s.linkOff 0x5A), diag := none
      pending := (List.replicate m (rd 0x00)).map (eventOfBtw s.cfg.portBase) ++ es }) hs rfl
    rw [linkBytes_succ, Nat.add_comm]
    exact ⟨t, hread.trans ht, hend⟩

/-- The link-arm pulse returns 0xFF and enters the tag phase. -/
theorem serves_linkArm (hs : s.state = .named .idle ∨ s.state = .named .link)
    (hp : s.pending = eventOfBtw s.cfg.portBase (rd 0x03) :: es) :
    Serves 1 s [0xFF] { s with
      state := .named (.tagT 0), linkEnt := none, linkOff := 0, rdata := some 0xFF, diag := none, pending := es } :=
  .access hp ((congrArg (exec · _) (decodeBtw_read 0x03 0x00)).trans ((linkArmEntersTheTagPhase (s.setPending es)).1 hs))

/-- A whole link query: the pulse's 0xFF, then the bytes of the payload matched. -/
theorem serves_linkQuery {w : Word} (hs : s.state = .named .idle ∨ s.state = .named .link)
    (hp : s.pending = (linkAccesses w m).map (eventOfBtw s.cfg.portBase) ++ es) :
    ∃ t, Serves (5 + m) s (0xFF :: linkBytes (cursorPayload s.cfg (lookup s.cfg w)) 0 m) t ∧ t.state = .named .link
      ∧ t.tag = w ∧ t.linkEnt = lookup s.cfg w ∧ t.pending = es := by
  rw [linkAccesses, List.map_cons, List.map_append, List.cons_append, List.append_assoc] at hp
  have harmed := (serves_linkArm hs hp).trans (serves_tag rfl rfl)
  obtain ⟨t, ht, hend⟩ := serves_linkReads (es := es) (s := { s with
    state := .named .link, tag := w, linkEnt := lookup s.cfg w, linkOff := 0, rdata := none, diag := none
    pending := (List.replicate m (rd 0x00)).map (eventOfBtw s.cfg.portBase) ++ es }) m rfl rfl
  exact ⟨t, harmed.trans ht, hend⟩

/-- Settles O52: the bytes of the payload of the entry matched, and of no payload where there is none. -/
theorem wholeLinkQueryReturnsThePayload : Obligations.WholeLinkQueryReturnsThePayload := by
  intro s w m es hs hp
  obtain ⟨t, ⟨hrun, hout⟩, hend⟩ := serves_linkQuery hs hp
  refine ⟨fun i e hi he => ?_, fun hnone => ?_, t, hrun, hend⟩
  · rw [hout, hi, cursorPayload_entry he, linkBytes, List.drop_zero, Nat.sub_zero]
  · rw [hout, hnone]
    simp [linkBytes, cursorPayload]

end Sys2Proof.Machine
end
